-- ==== Sys2Proof/Word.lean ====
section
/-! DEFINITION. The plain value types of the ED64: words, port numbers, source numbers, tags and payloads
(00_scope.md, Conventions; chapters 1 and 10). -/

namespace Sys2Proof

/-- A 32-bit word of a port window or of the memory port (R182, R131). -/
abbrev Word := BitVec 32

/-- Host ports P0 to P3 (00_scope.md, Names). -/
abbrev Port := Fin 4

/-- Sources 0 to 63; 0 to 47 are line sources, 48 to 63 posted sources (R1). -/
abbrev SourceId := Fin 64

/-- Event lines EVI0 to EVI47 (R28). -/
abbrev LineId := Fin 48

/-- Class of a source, 0 to 7; 7 is the most urgent (Table 1-2). -/
abbrev SourceClass := Fin 8

/-- A tag, 0 to 255, counted modulo 256 (R16). -/
abbrev Tag := BitVec 8

/-- A posted payload, 16 bits (R36). -/
abbrev Payload := BitVec 16

/-- A count of 0 to 255 that saturates: fold counts (R14) and dropped counts (R175). -/
abbrev Count8 := Fin 256

/-- The sampled or driven levels of the 48 event lines, line `n` in bit `n`, 1 for high (R188). -/
abbrev Levels := BitVec 48

end Sys2Proof
end

