-- ==== Sys2Proof/Syntax.lean ====
section
/-! DEFINITION. The commands of the ED64: one constructor of `Instr` for each row of spec/opcode_table.json. A
constructor carries what the happening brings with it: the port it arrives on and its operand fields (Table 10-3), the
levels of the event lines, or the answer of the memory bus. -/

namespace Sys2Proof

/-- The bus partner's answer to a read transaction (R131). -/
inductive ReadAnswer where
  | completed (data : Word)
  | error
  deriving DecidableEq, Repr

/-- The bus partner's answer to a write transaction (R131). -/
inductive WriteAnswer where
  | completed
  | error
  deriving DecidableEq, Repr

/-- The two registers whose reads act (R162). -/
inductive TakeRegister where
  | claim
  | fault
  deriving DecidableEq, Repr

/-- One access at a port window as the local bus brings it: direction, offset in the window, byte enables (bit `i` for
the byte in bits `8i+7 : 8i`) and, for a write, the data (Table 10-1, R183). -/
structure Access where
  write   : Bool
  offset  : BitVec 8
  enables : BitVec 4
  data    : Word
  deriving DecidableEq, Repr

/-- A reset input of a port with the level that it takes: PRSTn of port `port` asserted or released (R160, R161). -/
structure PortResetInput where
  port     : Port
  asserted : Bool
  deriving DecidableEq, Repr

/-- The commands, reads and happenings of spec/opcode_table.json, in the table's order. -/
inductive Instr where
  /-- POWER_ON: power-on with the levels that the first sample finds (R26, R29). -/
  | powerOn (levels : Levels)
  /-- PART_RESET: assertion of RESET (R27). -/
  | partReset
  /-- RESET_RELEASE: release of RESET with the levels that the first sample finds (R180, R29). -/
  | resetRelease (levels : Levels)
  /-- PORT_RESET: PRSTn takes a level (R160, R161). The assertion is the happening of R160; a release does nothing but let
  held accesses through, and has no row of its own (log entry 5). -/
  | portReset (prst : PortResetInput)
  /-- LINE_CHANGE: a new sample of one event line, `true` for high (R28, R30). -/
  | lineChange (line : LineId) (level : Bool)
  /-- PLACEMENT: the dispatch unit takes a placement (R51). -/
  | placement
  /-- TICK: a tick of the claim time base (R111). -/
  | tick
  /-- EXPIRY: the expiry of the claim of the named source (R117); the operand settles the order that R121 leaves open. -/
  | expiry (src : SourceId)
  /-- SERVICE_START: the transfer engine starts a service (R128). -/
  | serviceStart
  /-- FETCH_ANSWER: the answer to a descriptor read (R135). -/
  | fetchAnswer (answer : ReadAnswer)
  /-- UNIT_READ_ANSWER: the answer to a unit read (R137). -/
  | unitReadAnswer (answer : ReadAnswer)
  /-- UNIT_WRITE_ANSWER: the answer to a unit write (R137). -/
  | unitWriteAnswer (answer : WriteAnswer)
  /-- WRITEBACK_ANSWER: the answer to a writeback write (R139). -/
  | writebackAnswer (answer : WriteAnswer)
  /-- JOIN (R156). -/
  | join (p : Port)
  /-- LEAVE (R157). -/
  | leave (p : Port)
  /-- LEASE TAKE (R166). -/
  | leaseTake (p : Port)
  /-- LEASE DROP (R166). -/
  | leaseDrop (p : Port)
  /-- ROUTE SELECT (R169). -/
  | routeSelect (p : Port) (src : SourceId)
  /-- A write of STAGING 0 (R187). -/
  | staging0 (p : Port) (data : Word)
  /-- A write of STAGING 1 (R187). -/
  | staging1 (p : Port) (data : Word)
  /-- ROUTE COMMIT (R23, R24). -/
  | routeCommit (p : Port)
  /-- DISABLE (R20). -/
  | disable (p : Port) (src : SourceId)
  /-- RESUME (R25). -/
  | resume (p : Port) (src : SourceId)
  /-- POST (R38). -/
  | post (p : Port) (src : SourceId) (payload : Payload)
  /-- UNPOST (R40, R41, R42). -/
  | unpost (p : Port) (src : SourceId)
  /-- A full-word read of CLAIM (R91 to R93). -/
  | claim (p : Port)
  /-- COMPLETE (R99, R100). -/
  | complete (p : Port) (src : SourceId) (tag : Tag)
  /-- RETURN (R99, R101). -/
  | returnClaim (p : Port) (src : SourceId) (tag : Tag)
  /-- EXTEND (R99, R102). -/
  | extend (p : Port) (src : SourceId) (tag : Tag)
  /-- A write of FLOOR, with its four-bit value field (R171, Table 10-3). -/
  | floor (p : Port) (value : BitVec 4)
  /-- A write of FAULT WATCH (R171). -/
  | faultWatch (p : Port) (on : Bool)
  /-- A write of TICK DIVIDER (R112). -/
  | tickDivider (p : Port) (value : Word)
  /-- A write of LIMIT0 to LIMIT3 (R113). -/
  | limit (p : Port) (index : Fin 4) (value : Word)
  /-- RUN (R129). -/
  | run (p : Port)
  /-- HALT (R129). -/
  | halt (p : Port)
  /-- ABORT (R147). -/
  | abort (p : Port)
  /-- A full-word read of FAULT (R177). -/
  | fault (p : Port)
  /-- A read of CLAIM or FAULT narrower than a word; `enables` is the pattern of byte enables, never all four (R183). -/
  | narrowTakeRead (p : Port) (reg : TakeRegister) (enables : Fin 15)
  /-- An access that Table 10-2 does not define, or a narrow write (R183, R184). -/
  | undefinedAccess (p : Port) (access : Access)
  deriving DecidableEq, Repr

end Sys2Proof
end

