-- ==== Sys2Proof/Machine/Operands.lean ====
section
/-! DEFINITION. The operand forms of a port window: which accesses Table 10-2 defines, and the operand fields that a
written word carries (Table 10-3, R185). -/

namespace Sys2Proof

/-- All four byte enables are active: a full-word access (R183). -/
def Access.full (a : Access) : Bool := a.enables == 0xF#4

/-- Offsets at which a full-word write is a command: STAGING 0 to LIMIT3 (type S/C) and JOIN to ABORT (type C), Table 10-2. -/
def commandOffset (o : BitVec 8) : Bool :=
  o.toNat % 4 == 0 && ((0x3C ≤ o.toNat && o.toNat ≤ 0x54) || (0x80 ≤ o.toNat && o.toNat ≤ 0xC4))

/-- Offsets at which a read is defined: RESULT to LIMIT3 (types S, T and S/C), Table 10-2. -/
def readableOffset (o : BitVec 8) : Bool :=
  o.toNat % 4 == 0 && o.toNat ≤ 0x54

/-- Accesses that the row UNDEFINED_ACCESS covers: a write narrower than a word, a write at an offset that is no command
register, and a read at an offset that is no readable register (R183, R184). -/
def Access.undefined (a : Access) : Bool :=
  if a.write then !(a.full && commandOffset a.offset) else !readableOffset a.offset

/-- The source field, bits 5:0 (Table 10-3); six bits always name a source (R185). -/
def sourceField (w : Word) : SourceId := (w.extractLsb' 0 6).toFin

/-- The tag field of COMPLETE, RETURN and EXTEND, bits 15:8 (Table 10-3). -/
def tagField (w : Word) : Tag := w.extractLsb' 8 8

/-- The payload field of POST, bits 31:16 (Table 10-3). -/
def payloadField (w : Word) : Payload := w.extractLsb' 16 16

/-- The value field of FLOOR, bits 3:0 (Table 10-3). -/
def floorField (w : Word) : BitVec 4 := w.extractLsb' 0 4

/-- The on/off field of FAULT WATCH, bit 0 (Table 10-3). -/
def watchField (w : Word) : Bool := w.getLsbD 0

end Sys2Proof
end

