-- ==== Sys2Proof/Decode.lean ====
section
/-! DEFINITION. The decoder. spec/opcode_table.json gives no row any bits, so no table word spells a command. What the
spec does encode is an access at a port window: its direction, offset, byte enables and data name a command (Tables 10-2
and 10-3), and `decodeAccess` reads it. -/

namespace Sys2Proof

/-- The command that a table word spells: none, since no row of spec/opcode_table.json gives bits. -/
def decodeTableWord (_nbits _w : Nat) : Option Instr := none

/-- The command of a full-word write at a command register (Tables 10-2 and 10-3, R185). -/
def decodeWrite (p : Port) (offset : BitVec 8) (w : Word) : Option Instr :=
  match offset.toNat with
  | 0x3C => some (.staging0 p w)
  | 0x40 => some (.staging1 p w)
  | 0x44 => some (.tickDivider p w)
  | 0x48 => some (.limit p 0 w)
  | 0x4C => some (.limit p 1 w)
  | 0x50 => some (.limit p 2 w)
  | 0x54 => some (.limit p 3 w)
  | 0x80 => some (.join p)
  | 0x84 => some (.leave p)
  | 0x88 => some (.leaseTake p)
  | 0x8C => some (.leaseDrop p)
  | 0x90 => some (.routeSelect p (sourceField w))
  | 0x94 => some (.routeCommit p)
  | 0x98 => some (.disable p (sourceField w))
  | 0x9C => some (.resume p (sourceField w))
  | 0xA0 => some (.post p (sourceField w) (payloadField w))
  | 0xA4 => some (.unpost p (sourceField w))
  | 0xA8 => some (.complete p (sourceField w) (tagField w))
  | 0xAC => some (.returnClaim p (sourceField w) (tagField w))
  | 0xB0 => some (.extend p (sourceField w) (tagField w))
  | 0xB4 => some (.floor p (floorField w))
  | 0xB8 => some (.faultWatch p (watchField w))
  | 0xBC => some (.run p)
  | 0xC0 => some (.halt p)
  | 0xC4 => some (.abort p)
  | _ => none

/-- The command of a read at CLAIM or FAULT: the taking read when all byte enables are active, a narrow read when not
(R162, R183). -/
def decodeTakeRead (p : Port) (reg : TakeRegister) (enables : BitVec 4) : Instr :=
  if h : enables.toNat < 15 then .narrowTakeRead p reg ⟨enables.toNat, h⟩
  else
    match reg with
    | .claim => .claim p
    | .fault => .fault p

/-- The command that an access at port `p` is; `none` for a status read, which changes nothing and is no row of the table
(R162, R165, R183, R184). -/
def decodeAccess (p : Port) (a : Access) : Option Instr :=
  if a.undefined then some (.undefinedAccess p a)
  else if a.write then decodeWrite p a.offset a.data
  else if a.offset = 0x08#8 then some (decodeTakeRead p .claim a.enables)
  else if a.offset = 0x18#8 then some (decodeTakeRead p .fault a.enables)
  else none

/-- The access with which a host spells a command at its port, the bits outside the operand fields 0 (Tables 10-2 and
10-3); `none` for the happenings that are no access. -/
def encodeAccess : Instr → Option (Port × Access)
  | .staging0 p w => some (p, ⟨true, 0x3C, 0xF, w⟩)
  | .staging1 p w => some (p, ⟨true, 0x40, 0xF, w⟩)
  | .tickDivider p v => some (p, ⟨true, 0x44, 0xF, v⟩)
  | .limit p i v => some (p, ⟨true, 0x48 + BitVec.ofNat 8 (4 * i.val), 0xF, v⟩)
  | .join p => some (p, ⟨true, 0x80, 0xF, 0⟩)
  | .leave p => some (p, ⟨true, 0x84, 0xF, 0⟩)
  | .leaseTake p => some (p, ⟨true, 0x88, 0xF, 0⟩)
  | .leaseDrop p => some (p, ⟨true, 0x8C, 0xF, 0⟩)
  | .routeSelect p n => some (p, ⟨true, 0x90, 0xF, 0#26 ++ BitVec.ofFin (w := 6) n⟩)
  | .routeCommit p => some (p, ⟨true, 0x94, 0xF, 0⟩)
  | .disable p n => some (p, ⟨true, 0x98, 0xF, 0#26 ++ BitVec.ofFin (w := 6) n⟩)
  | .resume p n => some (p, ⟨true, 0x9C, 0xF, 0#26 ++ BitVec.ofFin (w := 6) n⟩)
  | .post p n d => some (p, ⟨true, 0xA0, 0xF, d ++ 0#10 ++ BitVec.ofFin (w := 6) n⟩)
  | .unpost p n => some (p, ⟨true, 0xA4, 0xF, 0#26 ++ BitVec.ofFin (w := 6) n⟩)
  | .complete p n t => some (p, ⟨true, 0xA8, 0xF, 0#16 ++ t ++ 0#2 ++ BitVec.ofFin (w := 6) n⟩)
  | .returnClaim p n t => some (p, ⟨true, 0xAC, 0xF, 0#16 ++ t ++ 0#2 ++ BitVec.ofFin (w := 6) n⟩)
  | .extend p n t => some (p, ⟨true, 0xB0, 0xF, 0#16 ++ t ++ 0#2 ++ BitVec.ofFin (w := 6) n⟩)
  | .floor p v => some (p, ⟨true, 0xB4, 0xF, 0#28 ++ v⟩)
  | .faultWatch p on => some (p, ⟨true, 0xB8, 0xF, 0#31 ++ BitVec.ofBool on⟩)
  | .run p => some (p, ⟨true, 0xBC, 0xF, 0⟩)
  | .halt p => some (p, ⟨true, 0xC0, 0xF, 0⟩)
  | .abort p => some (p, ⟨true, 0xC4, 0xF, 0⟩)
  | .claim p => some (p, ⟨false, 0x08, 0xF, 0⟩)
  | .fault p => some (p, ⟨false, 0x18, 0xF, 0⟩)
  | .narrowTakeRead p .claim e => some (p, ⟨false, 0x08, BitVec.ofNat 4 e.val, 0⟩)
  | .narrowTakeRead p .fault e => some (p, ⟨false, 0x18, BitVec.ofNat 4 e.val, 0⟩)
  | .undefinedAccess p a => some (p, a)
  | .powerOn _ => none
  | .partReset => none
  | .resetRelease _ => none
  | .portReset _ => none
  | .lineChange _ _ => none
  | .placement => none
  | .tick => none
  | .expiry _ => none
  | .serviceStart => none
  | .fetchAnswer _ => none
  | .unitReadAnswer _ => none
  | .unitWriteAnswer _ => none
  | .writebackAnswer _ => none

end Sys2Proof
end

