-- ==== Sys2Proof/Config.lean ====
section
/-! DEFINITION. The fixed sizes and power-on settings of the part. The spec leaves no value of a step free
(INVENTORY.md, 'What the manual leaves open'), so no constant here is opaque. -/

namespace Sys2Proof.Config

/-- Offers per offer queue (R70). -/
def offerRoom : Nat := 16

/-- Claims per port (R88). -/
def claimRoom : Nat := 8

/-- Sources in the engine queue (R125). -/
def engineRoom : Nat := 8

/-- Records in the fault queue (R174). -/
def faultRoom : Nat := 16

/-- Payloads in a posted source's queue and its claim together (R36). -/
def payloadRoom : Nat := 4

/-- Power-on tick divider (Table 6-1, R124). -/
def divider : Nat := 100

/-- Largest tick divider that a write is accepted with (R112). -/
def dividerMax : Nat := 4096

/-- Power-on LIMIT0 to LIMIT3 (Table 6-1, R124). -/
def limits : Vector (BitVec 16) 4 := #v[0, 1000, 10000, 60000]

end Sys2Proof.Config
end

