-- ==== Sys2Proof/Machine/State.lean ====
section
/-! DEFINITION. The state of the ED64 as plain data, the reasons a step can stop, and the state after power-on.
Each structure follows one table of the spec, which its docstring names; INVENTORY.md lists every field. -/

namespace Sys2Proof.Machine

/-- Detection settings of a line source (Table 2-2). -/
inductive Detection where
  | rising | falling | both | high | low
  deriving DecidableEq, Repr

/-- Hand-on modes (Table 1-2). -/
inductive HandOnMode where
  | fixed | shared | contest
  deriving DecidableEq, Repr

/-- A route record (Table 1-2). `eligible` holds port `n` in bit `n`; `detection` and `descAddr` are `none` for absent. -/
structure Route where
  enable    : Bool
  cls       : SourceClass
  detection : Option Detection
  mode      : HandOnMode
  eligible  : BitVec 4
  limitIdx  : Fin 4
  descAddr  : Option Word
  deriving DecidableEq, Repr

/-- The eight source states (Table 1-4). -/
inductive SourceState where
  | disabled | idle | latched | offered | claimed | engineWait | engineActive | suspended
  deriving DecidableEq, Repr

/-- The hand-on flags (R19): ENGINE_DONE, ENGINE_FAULT, ENGINE_ABORTED, REOFFER. -/
structure HandOnFlags where
  done    : Bool
  fault   : Bool
  aborted : Bool
  reoffer : Bool
  deriving DecidableEq, Repr

/-- One source entry: route record (Table 1-2), source status (Table 1-3) and payload queue (R36, head first), with the
dispatch unit's last-chosen pointer and unserved mark of the source (Table 3-1). The payload count of Table 1-3 is the
length of `payloads`. -/
structure SourceEntry where
  route       : Route
  state       : SourceState
  tag         : Tag
  fold        : Count8
  again       : Bool
  revocations : Fin 4
  exclusion   : Option Port
  flags       : HandOnFlags
  payloads    : List Payload
  lastChosen  : Port
  unserved    : Bool
  deriving DecidableEq, Repr

/-- A backlog entry: the source and its class (R46). -/
structure BacklogEntry where
  src : SourceId
  cls : SourceClass
  deriving DecidableEq, Repr

/-- An offer (Table 4-2). -/
structure Offer where
  src     : SourceId
  cls     : SourceClass
  tag     : Tag
  flags   : HandOnFlags
  contest : Bool
  deriving DecidableEq, Repr

/-- A claim (Table 5-2). The claim table keeps claims by source (R88), so the source is the place in the table. -/
structure Claim where
  port      : Port
  tag       : Tag
  cls       : SourceClass
  flags     : HandOnFlags
  payload   : Option Payload
  fold      : Count8
  remaining : Option (BitVec 16)
  renewals  : Fin 4
  deriving DecidableEq, Repr

/-- Port states (R155). -/
inductive PortState where
  | offline | online | draining
  deriving DecidableEq, Repr

/-- The thirteen result codes (Table 8-2). -/
inductive Result where
  | ok | empty | full | busy | invalid | leased | nolease | offline | notOnline | mismatch | stale | limit | disabled
  deriving DecidableEq, Repr

/-- A port's route staging (R169, R187): the fields of a route record, with STAGING 1 kept beside its presence bit. -/
structure Staging where
  enable      : Bool
  cls         : SourceClass
  detection   : Option Detection
  mode        : HandOnMode
  eligible    : BitVec 4
  limitIdx    : Fin 4
  descPresent : Bool
  descAddr    : Word
  deriving DecidableEq, Repr

/-- Last claim data of a port (R96). -/
structure ClaimData where
  src     : SourceId
  payload : Option Payload
  fold    : Count8
  deriving DecidableEq, Repr

/-- The settings and registers of one host port (Table 8-1). -/
structure PortRegs where
  state      : PortState
  floor      : Fin 9
  faultWatch : Bool
  selected   : SourceId
  staging    : Staging
  result     : Result
  claimData  : Option ClaimData
  faultData  : Option Word
  deriving DecidableEq, Repr

/-- Unit sizes of a descriptor (R133). -/
inductive UnitSize where
  | one | two | four
  deriving DecidableEq, Repr

/-- Address steps of a descriptor (R133). -/
inductive AddrStep where
  | fixed | up | down
  deriving DecidableEq, Repr

/-- Hand-on policies of a descriptor (R133, R141). -/
inductive HandOnPolicy where
  | burst | descriptor | chain
  deriving DecidableEq, Repr

/-- The part of the service record that is set at the end of FETCH (Table 7-2). `control` is the control word as fetched,
whose burst and unused bits the writeback writes again (R139); `left` is the units left in this burst. -/
structure Work where
  control : Word
  unit    : UnitSize
  srcStep : AddrStep
  dstStep : AddrStep
  policy  : HandOnPolicy
  link    : Option Word
  src     : Word
  dst     : Word
  count   : BitVec 16
  left    : Nat
  deriving DecidableEq, Repr

/-- Where a service stands, named by the transaction that waits for its answer (R131, R132): a descriptor read with the
words already read, a unit read, a unit write of the data read, or a writeback write of word `word`. -/
inductive Phase where
  | fetch0
  | fetch1 (control : Word)
  | fetch2 (control src : Word)
  | fetch3 (control src dst : Word)
  | moveRead (w : Work)
  | moveWrite (w : Work) (data : Word)
  | writeback (w : Work) (word : Fin 3)
  deriving DecidableEq, Repr

/-- The service record (Table 7-2). -/
structure Service where
  src       : SourceId
  descAddr  : Word
  abort     : Bool
  moveFault : Bool
  phase     : Phase
  deriving DecidableEq, Repr

/-- Phases of an ENGINE_BUS_ERROR record (Table 7-7). -/
inductive BusPhase where
  | fetch | moveRead | moveWrite | writeback
  deriving DecidableEq, Repr

/-- Reasons of a DESCRIPTOR_INVALID record (Table 7-5). -/
inductive BadDescriptor where
  | badUnit | badStep | badPolicy | badBurst | zeroCount | misalignedSource | misalignedDestination
  deriving DecidableEq, Repr

/-- Kind and detail of a fault record (Table 9-3). -/
inductive FaultDetail where
  | claimExpired (revocations : Fin 4) (disablePending : Bool)
  | abandoned (fold : Count8)
  | unserved (flags : HandOnFlags)
  | engineBusError (phase : BusPhase)
  | descriptorInvalid (reason : BadDescriptor)
  | portReset (claims : Nat)
  | partReset (claims : Nat)
  deriving DecidableEq, Repr

/-- A fault record (Table 9-2); `none` is an absent field. -/
structure FaultRecord where
  src     : Option SourceId
  port    : Option Port
  tag     : Option Tag
  address : Option Word
  detail  : FaultDetail
  dropped : Count8
  deriving DecidableEq, Repr

/-- The service that a part reset cut, for its PART_RESET record (R180). -/
structure CutService where
  src      : SourceId
  tag      : Tag
  descAddr : Word
  deriving DecidableEq, Repr

/-- What the part keeps from the assertion of RESET to its release for the PART_RESET record (R180). -/
structure ResetNote where
  cut    : Option CutService
  claims : Nat
  deriving DecidableEq, Repr

/-- The state of the part, the accesses held on the local buses, and the queue of waiting commands. -/
@[ext]
structure State where
  /-- The Source Table with the dispatch unit's per-source state (R1, Table 3-1). -/
  sources        : Vector SourceEntry 64
  /-- The backlog, first entry first (R46). -/
  backlog        : List BacklogEntry
  /-- The offer queue of each port, head first (R70). -/
  offers         : Vector (List Offer) 4
  /-- The claim table, kept by source (R88). -/
  claims         : Vector (Option Claim) 64
  /-- Settings and registers of each port (Table 8-1). -/
  ports          : Vector PortRegs 4
  /-- The configuration lease: free or held (R166). -/
  lease          : Option Port
  /-- Attention outputs, `true` for asserted (Table 4-1). -/
  attn           : Vector Bool 4
  /-- The word that the last acting read of each port returned on its local bus (R162, R183, R184). -/
  readWord       : Vector Word 4
  /-- Current sample of every line (Table 2-1). -/
  currentSample  : Levels
  /-- Previous sample of every line (Table 2-1). -/
  previousSample : Levels
  /-- Tick prescale count (Table 6-1). -/
  prescale       : Nat
  /-- Tick divider, the last value accepted (Table 6-1, R112). -/
  divider        : Nat
  /-- The divider in force for the current interval (Table 6-1, R112). -/
  interval       : Nat
  /-- LIMIT0 to LIMIT3 (Table 6-1). -/
  limits         : Vector (BitVec 16) 4
  /-- Engine queue, oldest first (R125). -/
  engineQueue    : List SourceId
  /-- Run/halt setting, `true` for RUNNING (Table 7-1). -/
  running        : Bool
  /-- The service in flight; `none` is engine state IDLE (R127). -/
  service        : Option Service
  /-- Fault queue, oldest first (R174). -/
  faults         : List FaultRecord
  /-- Dropped count (R175). -/
  dropped        : Count8
  /-- `none` while RESET is not asserted; otherwise what its PART_RESET record will say (R180). -/
  resetNote      : Option ResetNote
  /-- PRST0 to PRST3, `true` for asserted (Table 10-1, R161). -/
  portResets     : Vector Bool 4
  /-- Accesses held on the local buses while RESET, or PRSTn of their port, is asserted, in order of arrival (R161,
  R162). -/
  held           : List Instr
  /-- Commands waiting to be taken, first in, first out. -/
  pending        : List Instr
  deriving DecidableEq, Repr

/-- Reasons for which a step stops with a fault. There is none: the spec names no happening that stops the part. -/
inductive Fault where
  deriving DecidableEq, Repr

/-- Reasons for which a step refuses a command. -/
inductive Refusal where
  /-- Raised by an arm of `exec` whose command has no meaning yet; safe. No arm raises it. -/
  | notModelled (mnemonic : String)
  /-- Raised by UNDEFINED_ACCESS on an ill-formed term, whose access Table 10-2 defines: such an access is spelled by its
  own row or is a status read. Safe: nothing is answered for it. -/
  | definedAccess
  deriving DecidableEq, Repr

/-- No hand-on flags. -/
def HandOnFlags.none : HandOnFlags := ⟨false, false, false, false⟩

/-- Power-on route record of a source (Table 1-2). -/
def Route.powerOn (n : SourceId) : Route where
  enable    := false
  cls       := 0
  detection := if n.val < 48 then some .rising else Option.none
  mode      := .fixed
  eligible  := 0b0001#4
  limitIdx  := 0
  descAddr  := Option.none

/-- Power-on source entry (Tables 1-2, 1-3 and 3-5). -/
def SourceEntry.powerOn (n : SourceId) : SourceEntry where
  route       := Route.powerOn n
  state       := .disabled
  tag         := 0
  fold        := 0
  again       := false
  revocations := 0
  exclusion   := Option.none
  flags       := .none
  payloads    := []
  lastChosen  := 3
  unserved    := false

/-- Default route staging (R169). R169 says that there is no descriptor address; that the address word of STAGING 1, which
is kept beside the presence bit, is then 0 is a DESIGN CHOICE (log entry 18). -/
def Staging.default : Staging where
  enable      := false
  cls         := 0
  detection   := some .rising
  mode        := .fixed
  eligible    := 0b0001#4
  limitIdx    := 0
  descPresent := false
  descAddr    := 0

/-- Port settings after power-on, part reset and a reset of the port (Table 8-4). -/
def PortRegs.default : PortRegs where
  state      := .offline
  floor      := 0
  faultWatch := false
  selected   := 0
  staging    := .default
  result     := .ok
  claimData  := Option.none
  faultData  := Option.none

/-- The Source Table at power-on. -/
def powerOnSources : Vector SourceEntry 64 :=
  ⟨⟨(List.finRange 64).map SourceEntry.powerOn⟩, by simp⟩

/-- The part at power-on, its first sample finding `levels` (R26, R29, R45, R50, R69, R87, R109, R124, R154, R172, R173,
R180); no command waits. DESIGN CHOICE: no PRSTn is asserted (log entry 5). -/
def State.powerOn (levels : Levels) : State where
  sources        := powerOnSources
  backlog        := []
  offers         := Vector.replicate 4 []
  claims         := Vector.replicate 64 none
  ports          := Vector.replicate 4 .default
  lease          := none
  attn           := Vector.replicate 4 false
  readWord       := Vector.replicate 4 0
  currentSample  := levels
  previousSample := levels
  prescale       := 0
  divider        := Config.divider
  interval       := Config.divider
  limits         := Config.limits
  engineQueue    := []
  running        := true
  service        := none
  faults         := []
  dropped        := 0
  resetNote      := none
  portResets     := Vector.replicate 4 false
  held           := []
  pending        := []

/-- The machine right after power-on. The levels of the lines at power-on come from outside the part; DESIGN CHOICE: all
low (log entry 1). -/
def State.reset : State := State.powerOn 0

end Sys2Proof.Machine
end

