-- ==== Sys2Proof/Machine/Flags.lean ====
section
/-! DEFINITION. Every flag that the spec computes: the hand-on flags of an occurrence (R19), what a source's fields say of
it (armed, disable-pending, engine-bound), and the attention condition (R85). -/

namespace Sys2Proof.Machine

/-- The flag that the transfer engine sets at a hand-on (R19, Table 7-6). -/
inductive EngineFlag where
  | done | fault | aborted
  deriving DecidableEq, Repr

/-- The flags with the engine flag of a hand-on set (R10). -/
def HandOnFlags.withEngine (f : HandOnFlags) : EngineFlag → HandOnFlags
  | .done    => { f with done := true }
  | .fault   => { f with fault := true }
  | .aborted => { f with aborted := true }

/-- The flags with REOFFER added (R19). -/
def HandOnFlags.withReoffer (f : HandOnFlags) : HandOnFlags := { f with reoffer := true }

/-- The flags as four bits, ENGINE_DONE lowest (Tables 10-5, 10-8 and 10-10). -/
def HandOnFlags.bits (f : HandOnFlags) : BitVec 4 :=
  BitVec.ofBool f.reoffer ++ BitVec.ofBool f.aborted ++ BitVec.ofBool f.fault ++ BitVec.ofBool f.done

/-- The source is one of sources 48 to 63 (R1). -/
def isPosted (n : SourceId) : Bool := 48 ≤ n.val

/-- The source's route record holds a descriptor address (R2). -/
def SourceEntry.armed (e : SourceEntry) : Bool := e.route.descAddr.isSome

/-- Enable is off while the state is CLAIMED or ENGINE_ACTIVE (R4, section 1.2.2). -/
def SourceEntry.disablePending (e : SourceEntry) : Bool :=
  !e.route.enable && (e.state == .claimed || e.state == .engineActive)

/-- The entry is engine-bound: armed, and its occurrence carries no engine flag (R53). -/
def SourceEntry.engineBound (e : SourceEntry) : Bool :=
  e.armed && !e.flags.done && !e.flags.fault && !e.flags.aborted

/-- Port `p` is in the source's eligible set (Table 10-4: bit 9 is P0 in the register, bit 0 here). -/
def Route.eligibleFor (r : Route) (p : Port) : Bool := r.eligible.getLsbD p.val

/-- Two counts added, saturating at 255 (R9, R14). -/
def satAdd (a b : Count8) : Count8 := ⟨min (a.val + b.val) 255, by omega⟩

/-- A revocation count after one expiry; it is never above 3 (R17). -/
def revocationsAfter (r : Fin 4) : Fin 4 := ⟨min (r.val + 1) 3, by omega⟩

/-- The line's level `high` is the active level of the detection setting (Table 2-2); edge settings have none. -/
def Detection.active (d : Detection) (high : Bool) : Bool :=
  match d with
  | .high => high
  | .low  => !high
  | .rising | .falling | .both => false

/-- A change of the line to level `high` is a qualifying edge of the detection setting (Table 2-2). -/
def Detection.qualifies (d : Detection) (high : Bool) : Bool :=
  match d with
  | .rising  => high
  | .falling => !high
  | .both    => true
  | .high | .low => false

/-- The offer part of the attention condition: an offer at or above the class floor at an ONLINE port (R85). -/
def offerPart (r : PortRegs) (queue : List Offer) : Bool :=
  r.state == .online && queue.any fun o => decide (r.floor.val ≤ o.cls.val)

/-- The fault part of the attention condition (R85). -/
def faultPart (r : PortRegs) (faults : List FaultRecord) : Bool :=
  (r.state == .online || r.state == .draining) && r.faultWatch && !faults.isEmpty

/-- The attention condition of a port (R85). -/
def State.attention (s : State) (p : Port) : Bool :=
  offerPart s.ports[p] s.offers[p] || faultPart s.ports[p] s.faults

/-- ATTN0 to ATTN3 take the values of their conditions (R86). -/
def State.updateAttention (s : State) : State :=
  { s with attn := #v[s.attention 0, s.attention 1, s.attention 2, s.attention 3] }

end Sys2Proof.Machine
end

