-- ==== Sys2Proof/Machine/Ops.lean ====
section
/-! DEFINITION. The operations that the meanings share: reading and writing the tables of the state, the order of the
backlog and the offer queues, the life of a source entry, fault records, claims, and the admission of an access. -/

namespace Sys2Proof.Machine

/-! ### Tables of the state -/

/-- Source entry `n` (R1). -/
def State.source (s : State) (n : SourceId) : SourceEntry := s.sources[n]

/-- Writes source entry `n`. -/
def State.setSource (s : State) (n : SourceId) (e : SourceEntry) : State :=
  { s with sources := s.sources.set n e }

/-- Changes source entry `n`. -/
def State.modSource (s : State) (n : SourceId) (f : SourceEntry → SourceEntry) : State :=
  s.setSource n (f (s.source n))

/-- Settings of port `p` (Table 8-1). -/
def State.port (s : State) (p : Port) : PortRegs := s.ports[p]

/-- Changes the settings of port `p`. -/
def State.modPort (s : State) (p : Port) (f : PortRegs → PortRegs) : State :=
  { s with ports := s.ports.set p (f (s.port p)) }

/-- Leaves a result code in the port's RESULT (R163). -/
def State.setResult (s : State) (p : Port) (c : Result) : State :=
  s.modPort p fun r => { r with result := c }

/-- Offer queue of port `p`, head first (R70). -/
def State.queue (s : State) (p : Port) : List Offer := s.offers[p]

/-- Writes the offer queue of port `p`. -/
def State.setQueue (s : State) (p : Port) (q : List Offer) : State :=
  { s with offers := s.offers.set p q }

/-- The claim of source `n`, if it has one (R88). -/
def State.claimOf (s : State) (n : SourceId) : Option Claim := s.claims[n]

/-- Writes the claim table at source `n`. -/
def State.setClaim (s : State) (n : SourceId) (c : Option Claim) : State :=
  { s with claims := s.claims.set n c }

/-- The word that an acting read returns on the local bus of port `p` (R162). -/
def State.returnWord (s : State) (p : Port) (w : Word) : State :=
  { s with readWord := s.readWord.set p w }

/-- The ports P0 to P3 in ascending order. -/
def allPorts : List Port := List.finRange 4

/-- The sources in ascending order of source number. -/
def allSources : List SourceId := List.finRange 64

/-- The line sources in ascending order of source number. -/
def lineSources : List SourceId := allSources.filter fun n => !isPosted n

/-- The port is ONLINE (R155). -/
def State.online (s : State) (p : Port) : Bool := (s.port p).state == .online

/-- The port holds the claim of source `n`. -/
def State.holds (s : State) (p : Port) (n : SourceId) : Bool :=
  match s.claimOf n with
  | some c => c.port == p
  | none => false

/-- The number of claims that port `p` holds (R88). -/
def State.claimCount (s : State) (p : Port) : Nat := allSources.countP (s.holds p)

/-- The number of claims in the claim table (R180). -/
def State.claimTotal (s : State) : Nat := allSources.countP fun n => (s.claimOf n).isSome

/-- The load of port `p`: its offers plus its claims (R57). -/
def State.load (s : State) (p : Port) : Nat := (s.queue p).length + s.claimCount p

/-- Port `p` has an offer of source `n`. -/
def State.hasOffer (s : State) (p : Port) (n : SourceId) : Bool := (s.queue p).any fun o => o.src == n

/-- Removes the offers of source `n` from every queue whose port `which` picks (R75, R76). -/
def State.withdraw (s : State) (which : Port → Bool) (n : SourceId) : State :=
  let q (p : Port) : List Offer :=
    if which p then (s.queue p).filter (fun o => o.src != n) else s.queue p
  { s with offers := #v[q 0, q 1, q 2, q 3] }

/-! ### Class bands (R46, R47, R72) -/

/-- Puts `a` at the back of its class band. -/
def insertBack {α : Type} (cls : α → SourceClass) (a : α) : List α → List α
  | [] => [a]
  | x :: xs => if cls a ≤ cls x then x :: insertBack cls a xs else a :: x :: xs

/-- Puts `a` at the front of its class band. -/
def insertFront {α : Type} (cls : α → SourceClass) (a : α) : List α → List α
  | [] => [a]
  | x :: xs => if cls a < cls x then x :: insertFront cls a xs else a :: x :: xs

/-- Removes the backlog entry of source `n` (R49). -/
def State.dropEntry (s : State) (n : SourceId) : State :=
  { s with backlog := s.backlog.filter fun b => b.src != n }

/-- Inserts an offer into the queue of port `p` (R72, R73). -/
def State.putOffer (s : State) (p : Port) (o : Offer) : State :=
  s.setQueue p (if o.flags.reoffer then insertFront Offer.cls o (s.queue p) else insertBack Offer.cls o (s.queue p))

/-! ### Fault records (R175) -/

/-- A handed record is stored with the dropped count before it, or dropped and counted (R175). The record's own dropped
field is set here. -/
def State.handRecord (s : State) (r : FaultRecord) : State :=
  if s.faults.length < Config.faultRoom then
    { s with faults := s.faults ++ [{ r with dropped := s.dropped }], dropped := 0 }
  else
    { s with dropped := satAdd s.dropped 1 }

/-- The UNSERVED record of a source (R65). -/
def unservedRecord (n : SourceId) (e : SourceEntry) : FaultRecord where
  src := some n
  port := none
  tag := some e.tag
  address := none
  detail := .unserved e.flags
  dropped := 0

/-! ### The life of a source entry (chapter 1) -/

/-- The entry in LATCHED with the values of a new occurrence (R6, R64). -/
def SourceEntry.fresh (e : SourceEntry) : SourceEntry :=
  { e with state := .latched, fold := 0, again := false, revocations := 0, exclusion := none, flags := .none,
           unserved := false }

/-- The entry in IDLE (R13, R64). -/
def SourceEntry.toIdle (e : SourceEntry) : SourceEntry :=
  { e with state := .idle, fold := 0, again := false, revocations := 0, exclusion := none, flags := .none,
           unserved := false }

/-- The entry in DISABLED, its payload queue emptied (R13, R64). -/
def SourceEntry.toDisabled (e : SourceEntry) : SourceEntry :=
  { e.toIdle with state := .disabled, payloads := [] }

/-- The entry with the payload and the fold count of an ended claim given back (R9, R12). -/
def SourceEntry.restore (e : SourceEntry) (c : Claim) : SourceEntry :=
  { e with payloads := c.payload.toList ++ e.payloads, fold := satAdd e.fold c.fold }

/-- The entry in LATCHED on its way back to the backlog: exclusion set, REOFFER added (R9). -/
def SourceEntry.reenter (e : SourceEntry) (exclusion : Option Port) : SourceEntry :=
  { e with state := .latched, exclusion := exclusion, flags := e.flags.withReoffer }

/-- No port of the source's eligible set is ONLINE (R63). -/
def State.noEligibleOnline (s : State) (n : SourceId) : Bool :=
  allPorts.all fun p => !((s.source n).route.eligibleFor p && s.online p)

/-- The UNSERVED check at a backlog entry just made (R63, R64, R65). -/
def State.unservedCheck (s : State) (n : SourceId) : State :=
  if !(s.source n).engineBound && s.noEligibleOnline n && !(s.source n).unserved then
    (s.handRecord (unservedRecord n (s.source n))).modSource n fun e => { e with unserved := true }
  else s

/-- The backlog entry of source `n`, with the class of its route record (R46). -/
def State.entryFor (s : State) (n : SourceId) : BacklogEntry := ⟨n, (s.source n).route.cls⟩

/-- Puts source `n` at the back of its class band, and checks it for UNSERVED (R47, R63). -/
def State.enterBack (s : State) (n : SourceId) : State :=
  State.unservedCheck { s with backlog := insertBack BacklogEntry.cls (s.entryFor n) s.backlog } n

/-- Puts the sources of `ns`, which stand in ascending order, as one group at the front of their class bands, and checks
each for UNSERVED in ascending order (R47, R48, R63). -/
def State.enterFront (s : State) (ns : List SourceId) : State :=
  ns.foldl State.unservedCheck
    { s with backlog := ns.foldr (fun n b => insertFront BacklogEntry.cls (s.entryFor n) b) s.backlog }

/-- Latches a new occurrence of source `n` (R6). -/
def State.latch (s : State) (n : SourceId) : State :=
  (s.modSource n SourceEntry.fresh).enterBack n

/-- The current sample of the source's line stands at the active level of its detection setting (R33). -/
def State.levelActive (s : State) (n : SourceId) : Bool :=
  !isPosted n &&
    match (s.source n).route.detection with
    | some d => d.active (s.currentSample.getLsbD n.val)
    | none => false

/-- The end of an occurrence (R11, with R21 for a source whose enable is off). -/
def State.endOccurrence (s : State) (n : SourceId) : State :=
  let e := s.source n
  if !e.route.enable then s.setSource n e.toDisabled
  else if e.again then (s.setSource n { e.fresh with fold := e.fold }).enterBack n
  else if isPosted n && !e.payloads.isEmpty then s.latch n
  else if s.levelActive n then s.latch n
  else s.setSource n e.toIdle

/-! ### Offers withdrawn by LEAVE and port reset (R77) -/

/-- An offer of port `p` whose withdrawal by LEAVE or port reset sends source `n` back to the backlog: FIXED and SHARED
always, CONTEST when no other queue holds an offer of it (Table 4-3, R78). -/
def State.returnsFrom (s : State) (p : Port) (n : SourceId) : Bool :=
  s.hasOffer p n &&
    ((s.source n).route.mode != .contest || allPorts.all fun q => q == p || !s.hasOffer q n)

/-- The exclusion that such a withdrawal leaves (Table 1-5, Table 4-3). -/
def withdrawalExclusion (e : SourceEntry) (p : Port) : Option Port :=
  if e.route.mode == .contest then e.exclusion else some p

/-! ### Ends of claims (R103) -/

/-- Removes the claim of source `n`, and takes port `p` to OFFLINE when it is DRAINING and holds no other claim (R103,
R158). -/
def State.removeClaim (s : State) (n : SourceId) (p : Port) : State :=
  let s := s.setClaim n none
  if (s.port p).state == .draining && s.claimCount p == 0 then
    s.modPort p fun r => { r with state := .offline }
  else s

/-! ### Taking an access (R161, R162, R164) -/

/-- The columns of Table 8-3: which port states admit an access, and whether it needs the lease. -/
inductive Admission where
  | anyState      -- JOIN
  | notOffline    -- LEAVE, COMPLETE, RETURN, EXTEND, FAULT
  | onlineOnly    -- admitted at ONLINE, no lease
  | leaseHolder   -- admitted at ONLINE, needs the lease
  deriving DecidableEq, Repr

/-- The code with which an access is refused before its own rule judges it; `none` admits it (R164). -/
def State.refusal (s : State) (a : Admission) (p : Port) : Option Result :=
  match a, (s.port p).state with
  | .anyState, _ => none
  | _, .offline => some .offline
  | .notOffline, _ => none
  | _, .draining => some .notOnline
  | .onlineOnly, .online => none
  | .leaseHolder, .online => if s.lease = some p then none else some .nolease

/-- The port at which an access arrives; `none` for the happenings that are no access (R162, R183, R184). -/
def accessPort : Instr → Option Port
  | .join p | .leave p | .leaseTake p | .leaseDrop p | .routeCommit p | .run p | .halt p | .abort p => some p
  | .routeSelect p _ | .staging0 p _ | .staging1 p _ | .disable p _ | .resume p _ | .unpost p _ => some p
  | .post p _ _ | .complete p _ _ | .returnClaim p _ _ | .extend p _ _ => some p
  | .floor p _ | .faultWatch p _ | .tickDivider p _ | .limit p _ _ => some p
  | .claim p | .fault p | .narrowTakeRead p _ _ | .undefinedAccess p _ => some p
  | .powerOn _ | .partReset | .resetRelease _ | .portReset _ | .lineChange _ _ | .placement | .tick | .expiry _ => none
  | .serviceStart | .fetchAnswer _ | .unitReadAnswer _ | .unitWriteAnswer _ | .writebackAnswer _ => none

/-- The level of PRSTn, `true` for asserted (R161). -/
def State.setPortReset (s : State) (p : Port) (asserted : Bool) : State :=
  { s with portResets := s.portResets.set p asserted }

/-- Port `p` takes no access: RESET (R162) or PRSTn of the port (R161) is asserted. -/
def State.holding (s : State) (p : Port) : Bool := s.resetNote.isSome || s.portResets[p]

/-- The access is held at port `p` while the port takes none. -/
def State.stillHeld (s : State) (c : Instr) : Bool := (accessPort c).any s.holding

/-- An access that arrives while its port takes none is held on its local bus (R161, R162); otherwise it is taken. -/
def State.orHold (s : State) (c : Instr) (p : Port) (take : State → State) : Host.Outcome State Fault Refusal :=
  if s.holding p then .next { s with held := s.held ++ [c] } else .next (take s)

/-- The held accesses whose port takes accesses now are let through, in front of the waiting commands and in order of
arrival; the others stay held (R161, R162; DESIGN CHOICE for the order among ports, log entry 2). -/
def State.letThrough (s : State) : State :=
  { s with held := s.held.filter s.stillHeld, pending := s.held.filter (fun c => !s.stillHeld c) ++ s.pending }

/-- A command write: judged by R164, then by the rule of the command, whose code is left in RESULT (R162, R163). -/
def State.command (s : State) (c : Instr) (p : Port) (a : Admission) (rule : State → State × Result) :
    Host.Outcome State Fault Refusal :=
  s.orHold c p fun s =>
    match s.refusal a p with
    | some code => s.setResult p code
    | none => (rule s).1.setResult p (rule s).2

/-- The value of a code in RESULT and in the code fields of the words (R191). -/
def Result.code : Result → BitVec 4
  | .ok => 0 | .empty => 1 | .full => 2 | .busy => 3 | .invalid => 4 | .leased => 5 | .nolease => 6
  | .offline => 7 | .notOnline => 8 | .mismatch => 9 | .stale => 10 | .limit => 11 | .disabled => 12

/-- The code SLOTS_FULL of the claim word (R191). -/
def slotsFullCode : BitVec 4 := 13

end Sys2Proof.Machine
end

