-- ==== Sys2Proof/Machine/Words.lean ====
section
/-! DEFINITION. The layouts of the words of chapter 10: what the staging writes take from a word, the claim and offer
words, the fault record words, the descriptor words, and what every read of the register window returns. -/

namespace Sys2Proof.Machine

/-! ### Codes of the fields -/

/-- Detection code 0 to 7 (Table 10-4): `none` for the codes 6 and 7, which name no value. -/
def detectionOfCode (c : BitVec 3) : Option (Option Detection) :=
  match c.toNat with
  | 0 => some none
  | 1 => some (some .rising)
  | 2 => some (some .falling)
  | 3 => some (some .both)
  | 4 => some (some .high)
  | 5 => some (some .low)
  | _ => none

/-- The code of a detection setting or of its absence (Table 10-4). -/
def detectionCode : Option Detection → BitVec 3
  | none => 0
  | some .rising => 1
  | some .falling => 2
  | some .both => 3
  | some .high => 4
  | some .low => 5

/-- Hand-on mode code 0 to 3 (Table 10-4): `none` for the code 3, which names no value. -/
def modeOfCode (c : BitVec 2) : Option HandOnMode :=
  match c.toNat with
  | 0 => some .fixed
  | 1 => some .shared
  | 2 => some .contest
  | _ => none

/-- The code of a hand-on mode (Table 10-4). -/
def modeCode : HandOnMode → BitVec 2
  | .fixed => 0
  | .shared => 1
  | .contest => 2

/-- The code of a source state (Table 10-5). -/
def stateCode : SourceState → BitVec 3
  | .disabled => 0 | .idle => 1 | .latched => 2 | .offered => 3
  | .claimed => 4 | .engineWait => 5 | .engineActive => 6 | .suspended => 7

/-- The code of a port state (Table 10-6). -/
def portStateCode : PortState → BitVec 2
  | .offline => 0 | .online => 1 | .draining => 2

/-- The code of the engine state (Table 10-7, R127): IDLE when no service is in flight. -/
def engineStateCode : Option Service → BitVec 2
  | none => 0
  | some v =>
    match v.phase with
    | .fetch0 | .fetch1 _ | .fetch2 _ _ | .fetch3 _ _ _ => 1
    | .moveRead _ | .moveWrite _ _ => 2
    | .writeback _ _ => 3

/-- The code of a fault record's kind (Table 10-9). -/
def FaultDetail.kindCode : FaultDetail → BitVec 3
  | .claimExpired _ _ => 1
  | .abandoned _ => 2
  | .unserved _ => 3
  | .engineBusError _ => 4
  | .descriptorInvalid _ => 5
  | .portReset _ => 6
  | .partReset _ => 7

/-- The code of a bus error phase (Table 10-9). -/
def BusPhase.code : BusPhase → BitVec 2
  | .fetch => 0 | .moveRead => 1 | .moveWrite => 2 | .writeback => 3

/-- The code of a DESCRIPTOR_INVALID reason (Table 10-10). -/
def BadDescriptor.code : BadDescriptor → BitVec 4
  | .badUnit => 1 | .badStep => 2 | .badPolicy => 3 | .badBurst => 4
  | .zeroCount => 5 | .misalignedSource => 6 | .misalignedDestination => 7

/-! ### Staging and route words (Table 10-4, R187) -/

/-- The staging after a write of STAGING 0, or `none` when a coded field names no value (R187). -/
def Staging.write0 (g : Staging) (w : Word) : Option Staging :=
  match detectionOfCode (w.extractLsb' 4 3), modeOfCode (w.extractLsb' 7 2) with
  | some d, some m =>
    some { enable      := w.getLsbD 0
           cls         := (w.extractLsb' 1 3).toFin
           detection   := d
           mode        := m
           eligible    := w.extractLsb' 9 4
           limitIdx    := (w.extractLsb' 13 2).toFin
           descPresent := w.getLsbD 15
           descAddr    := g.descAddr }
  | _, _ => none

/-- The configuration fields of Table 10-4, bits 15:0. -/
def routeBits (enable : Bool) (cls : SourceClass) (d : Option Detection) (m : HandOnMode) (eligible : BitVec 4)
    (limitIdx : Fin 4) (present : Bool) : BitVec 16 :=
  BitVec.ofBool present ++ BitVec.ofFin (w := 2) limitIdx ++ eligible ++ modeCode m ++ detectionCode d ++
    BitVec.ofFin (w := 3) cls ++ BitVec.ofBool enable

/-- The word read at STAGING 0 (R187). -/
def Staging.word0 (g : Staging) : Word :=
  0#16 ++ routeBits g.enable g.cls g.detection g.mode g.eligible g.limitIdx g.descPresent

/-- The staging that ROUTE SELECT copies from a live route record (R169, R187). -/
def Route.toStaging (r : Route) : Staging where
  enable      := r.enable
  cls         := r.cls
  detection   := r.detection
  mode        := r.mode
  eligible    := r.eligible
  limitIdx    := r.limitIdx
  descPresent := r.descAddr.isSome
  descAddr    := r.descAddr.getD 0

/-- The route record that ROUTE COMMIT makes of a staging (R24, R187). -/
def Staging.toRoute (g : Staging) : Route where
  enable    := g.enable
  cls       := g.cls
  detection := g.detection
  mode      := g.mode
  eligible  := g.eligible
  limitIdx  := g.limitIdx
  descAddr  := if g.descPresent then some g.descAddr else none

/-- ROUTE STATE 0 of source `n` (section 10.4). DEDUCED (log entry 9): bits 24:23 read 0 when bit 22 is 0. -/
def State.routeState0 (s : State) (n : SourceId) : Word :=
  let r := (s.source n).route
  let claimed := (s.source n).state == .claimed
  let holder : Port := match s.claimOf n with
    | some c => if claimed then c.port else 0
    | none => 0
  0#7 ++ BitVec.ofFin (w := 2) holder ++ BitVec.ofBool claimed ++ BitVec.ofFin (w := 6) n ++
    routeBits r.enable r.cls r.detection r.mode r.eligible r.limitIdx r.descAddr.isSome

/-- ROUTE STATE 1 of source `n` (section 10.4). -/
def State.routeState1 (s : State) (n : SourceId) : Word :=
  match (s.source n).route.descAddr with
  | some a => a &&& 0xFFFFFFF0#32
  | none => 0

/-- ROUTE STATE 2 of source `n` (Table 10-5). DEDUCED (log entry 9): the exclusion field reads 0 when it is absent. -/
def State.routeState2 (s : State) (n : SourceId) : Word :=
  let e := s.source n
  BitVec.ofFin (w := 8) e.fold ++ e.tag ++ BitVec.ofNat 3 e.payloads.length ++ e.flags.bits ++
    BitVec.ofFin (w := 2) (e.exclusion.getD 0) ++ BitVec.ofBool e.exclusion.isSome ++
    BitVec.ofFin (w := 2) e.revocations ++ BitVec.ofBool e.again ++ stateCode e.state

/-! ### Status words (R188) -/

/-- PORT STATUS of port `p` (Table 10-6). -/
def State.portStatus (s : State) (p : Port) : Word :=
  let r := s.port p
  let lease : BitVec 2 := match s.lease with
    | none => 0
    | some q => if q = p then 1 else 2
  0#6 ++ BitVec.ofFin (w := 2) (s.lease.getD 0) ++ lease ++ BitVec.ofFin (w := 6) r.selected ++
    BitVec.ofBool r.faultWatch ++ BitVec.ofNat 4 r.floor.val ++ BitVec.ofNat 5 (s.queue p).length ++
    BitVec.ofNat 4 (s.claimCount p) ++ portStateCode r.state

/-- ENGINE STATUS (Table 10-7, R127). -/
def State.engineStatus (s : State) : Word :=
  let src : SourceId := match s.service with
    | some v => v.src
    | none => 0
  let abort : Bool := match s.service with
    | some v => v.abort
    | none => false
  0#17 ++ BitVec.ofNat 4 s.engineQueue.length ++ BitVec.ofBool abort ++ BitVec.ofFin (w := 6) src ++
    BitVec.ofBool s.service.isSome ++ BitVec.ofBool (!s.running) ++ engineStateCode s.service

/-! ### Claim and offer words (R189) -/

/-- The claim word and the OFFER HEAD word (Table 10-8). -/
def offerWord (code : BitVec 4) (src : SourceId) (cls : SourceClass) (mark : Bool) (flags : HandOnFlags) (tag : Tag)
    (count : Nat) : Word :=
  0#1 ++ BitVec.ofNat 5 count ++ tag ++ flags.bits ++ BitVec.ofBool mark ++ BitVec.ofFin (w := 3) cls ++
    BitVec.ofFin (w := 6) src ++ code

/-- A word of which only the code field is other than 0 (Tables 10-8 and 10-9). -/
def codeWord (code : BitVec 4) : Word := 0#28 ++ code

/-- The claim word of a claim just made (R95). -/
def claimWord (n : SourceId) (c : Claim) : Word :=
  offerWord Result.ok.code n c.cls c.payload.isSome c.flags c.tag 0

/-- OFFER HEAD of port `p` (R82). -/
def State.offerHead (s : State) (p : Port) : Word :=
  match s.queue p with
  | [] => codeWord Result.empty.code
  | o :: rest => offerWord Result.ok.code o.src o.cls o.contest o.flags o.tag (rest.length + 1)

/-- CLAIM DATA 0 (R189). DEDUCED (log entry 9): the fields beside the code read 0 when the data is absent. -/
def claimData0 : Option ClaimData → Word
  | none => codeWord Result.empty.code
  | some d =>
    0#8 ++ BitVec.ofFin (w := 8) d.fold ++ 0#5 ++ BitVec.ofBool d.payload.isSome ++ BitVec.ofFin (w := 6) d.src ++
      Result.ok.code

/-- CLAIM DATA 1 (R189). -/
def claimData1 : Option ClaimData → Word
  | none => 0
  | some d => 0#16 ++ d.payload.getD 0

/-! ### Fault record words (R190) -/

/-- Bits 15:14 of the first word (Table 10-9). -/
def FaultRecord.portOrPhase (r : FaultRecord) : BitVec 2 :=
  match r.detail with
  | .claimExpired _ _ | .abandoned _ | .portReset _ => BitVec.ofFin (w := 2) (r.port.getD 0)
  | .engineBusError ph => ph.code
  | .partReset k => (BitVec.ofNat 6 k).extractLsb' 4 2
  | .unserved _ | .descriptorInvalid _ => 0

/-- The first word of a fault record (Table 10-9). -/
def FaultRecord.firstWord (r : FaultRecord) : Word :=
  BitVec.ofFin (w := 8) r.dropped ++ r.tag.getD 0 ++ r.portOrPhase ++ BitVec.ofFin (w := 6) (r.src.getD 0) ++
    BitVec.ofBool r.src.isSome ++ r.detail.kindCode ++ Result.ok.code

/-- The second word of a fault record (Table 10-10). -/
def FaultRecord.secondWord (r : FaultRecord) : Word :=
  match r.detail with
  | .claimExpired k dp => 0#29 ++ BitVec.ofBool dp ++ BitVec.ofFin (w := 2) k
  | .abandoned f => 0#24 ++ BitVec.ofFin (w := 8) f
  | .unserved fl => 0#28 ++ fl.bits
  | .engineBusError _ => r.address.getD 0
  | .descriptorInvalid why => (r.address.getD 0).extractLsb' 4 28 ++ why.code
  | .portReset k => 0#28 ++ BitVec.ofNat 4 k
  | .partReset k => (r.address.getD 0).extractLsb' 4 28 ++ BitVec.ofNat 4 k

/-- FAULT DATA 0 (R190). -/
def faultData0 : Option Word → Word
  | none => codeWord Result.empty.code
  | some _ => codeWord Result.ok.code

/-! ### Reads of the register window (R165, R182, R183, R184) -/

/-- What a full-word status read returns at an offset of Table 10-2; `none` where no status register stands (R162). DESIGN
CHOICE (log entry 17): FAULT DATA 1 (20H) reads 0 while the last fault data is absent. -/
def State.statusRead (s : State) (p : Port) (offset : BitVec 8) : Option Word :=
  let r := s.port p
  match offset.toNat with
  | 0x00 => some (codeWord r.result.code)
  | 0x04 => some (s.portStatus p)
  | 0x0C => some (claimData0 r.claimData)
  | 0x10 => some (claimData1 r.claimData)
  | 0x14 => some (s.offerHead p)
  | 0x1C => some (faultData0 r.faultData)
  | 0x20 => some (r.faultData.getD 0)
  | 0x24 => some (s.currentSample.extractLsb' 0 32)
  | 0x28 => some (0#16 ++ s.currentSample.extractLsb' 32 16)
  | 0x2C => some s.engineStatus
  | 0x30 => some (s.routeState0 r.selected)
  | 0x34 => some (s.routeState1 r.selected)
  | 0x38 => some (s.routeState2 r.selected)
  | 0x3C => some r.staging.word0
  | 0x40 => some r.staging.descAddr
  | 0x44 => some (BitVec.ofNat 32 s.divider)
  | 0x48 => some (0#16 ++ s.limits[0])
  | 0x4C => some (0#16 ++ s.limits[1])
  | 0x50 => some (0#16 ++ s.limits[2])
  | 0x54 => some (0#16 ++ s.limits[3])
  | _ => none

/-- The bytes of a word that the byte enables address, the other bytes 0 (R183; DESIGN CHOICE for the bytes not
addressed, log entry 10). -/
def enabledBytes (enables : BitVec 4) (w : Word) : Word :=
  let b (i : Nat) : BitVec 8 := if enables.getLsbD i then w.extractLsb' (8 * i) 8 else 0
  b 3 ++ b 2 ++ b 1 ++ b 0

/-- What a read that changes nothing returns: the addressed bytes of a status register, 0 for a narrow read of CLAIM or
FAULT and for every other offset (R183, R184). -/
def State.quietRead (s : State) (p : Port) (offset : BitVec 8) (enables : BitVec 4) : Word :=
  match s.statusRead p offset with
  | some w => enabledBytes enables w
  | none => 0

end Sys2Proof.Machine
end

