-- ==== Sys2Proof/Machine/Claims.lean ====
section
/-! DEFINITION. CLAIM, COMPLETE, RETURN and EXTEND (R91 to R104). -/

namespace Sys2Proof.Machine

/-- The timer that a claim is loaded with or restarted from: the selected limit value, absent when it is 0 (R94, R102). -/
def State.loadTimer (s : State) (r : Route) : Option (BitVec 16) :=
  if s.limits[r.limitIdx] = 0 then none else some s.limits[r.limitIdx]

/-- The claim that port `p` makes of offer `o` (R93, Table 5-2). -/
def State.newClaim (s : State) (p : Port) (o : Offer) : Claim where
  port      := p
  tag       := o.tag
  cls       := o.cls
  flags     := o.flags
  payload   := if isPosted o.src then (s.source o.src).payloads.head? else none
  fold      := (s.source o.src).fold
  remaining := s.loadTimer (s.source o.src).route
  renewals  := 0

/-- A source entry at its claim (R8): CLAIMED, fold count delivered, head payload of a posted source moved out. -/
def SourceEntry.claimedNow (e : SourceEntry) (n : SourceId) : SourceEntry :=
  { e with state := .claimed, fold := 0, payloads := if isPosted n then e.payloads.tail else e.payloads }

/-- A claim of the head offer `o` at port `p`, whose queue holds `rest` behind it (R93). -/
def State.makeClaim (s : State) (p : Port) (o : Offer) (rest : List Offer) : State :=
  let c := s.newClaim p o
  let s := (s.setQueue p rest).withdraw (fun q => q != p) o.src
  let s := (s.modSource o.src fun e => e.claimedNow o.src).setClaim o.src (some c)
  let s := s.modPort p fun r => { r with claimData := some ⟨o.src, c.payload, c.fold⟩ }
  ((s.returnWord p (claimWord o.src c)).setResult p .ok).updateAttention

/-- A CLAIM read answered without a claim: the code in the word and in RESULT (R95, Table 5-3). -/
def State.answerTake (s : State) (p : Port) (word : BitVec 4) (result : Result) : State :=
  (s.returnWord p (codeWord word)).setResult p result

/-- A CLAIM read judged by port state, queue and claim count (R91, R92). -/
def State.claimRead (p : Port) (s : State) : State :=
  match (s.port p).state with
  | .offline => s.answerTake p Result.offline.code .offline
  | .draining => s.answerTake p Result.notOnline.code .notOnline
  | .online =>
    match s.queue p with
    | [] => s.answerTake p Result.empty.code .empty
    | o :: rest =>
      if Config.claimRoom ≤ s.claimCount p then s.answerTake p slotsFullCode .full else s.makeClaim p o rest

/-- CLAIM (R91, R92, R93). -/
def execClaim (p : Port) (s : State) : Host.Outcome State Fault Refusal :=
  s.orHold (.claim p) p (State.claimRead p)

/-- COMPLETE, RETURN and EXTEND matched against the claim table: STALE, MISMATCH, or the rule of the command on the
matching claim (R99). -/
def State.matchClaim (p : Port) (n : SourceId) (tag : Tag) (rule : State → Claim → State × Result) (s : State) :
    State × Result :=
  match s.claimOf n with
  | none => (s, .stale)
  | some c =>
    if c.port ≠ p then (s, .stale)
    else if c.tag ≠ tag then (s, .mismatch)
    else rule s c

/-- COMPLETE of the matching claim (R100). -/
def State.completeClaim (n : SourceId) (s : State) (c : Claim) : State × Result :=
  (((s.removeClaim n c.port).endOccurrence n).updateAttention, .ok)

/-- COMPLETE (R99, R100). -/
def execComplete (p : Port) (n : SourceId) (tag : Tag) (s : State) : Host.Outcome State Fault Refusal :=
  s.command (.complete p n tag) p .notOffline (State.matchClaim p n tag (State.completeClaim n))

/-- RETURN of the matching claim: to the front of its band, or to DISABLED when disable-pending (R101, R21). -/
def State.giveBack (n : SourceId) (s : State) (c : Claim) : State × Result :=
  let e := s.source n
  let s := s.removeClaim n c.port
  ((if e.route.enable then (s.setSource n ((e.restore c).reenter (some c.port))).enterFront [n]
    else s.setSource n e.toDisabled).updateAttention, .ok)

/-- RETURN (R99, R101). -/
def execReturnClaim (p : Port) (n : SourceId) (tag : Tag) (s : State) : Host.Outcome State Fault Refusal :=
  s.command (.returnClaim p n tag) p .notOffline (State.matchClaim p n tag (State.giveBack n))

/-- EXTEND of the matching claim (R102). -/
def State.extendClaim (n : SourceId) (s : State) (c : Claim) : State × Result :=
  if c.remaining = none then (s, .ok)
  else if c.renewals = 3 then (s, .limit)
  else
    (s.setClaim n (some { c with remaining := s.loadTimer (s.source n).route, renewals := c.renewals + 1 }), .ok)

/-- EXTEND (R99, R102). -/
def execExtend (p : Port) (n : SourceId) (tag : Tag) (s : State) : Host.Outcome State Fault Refusal :=
  s.command (.extend p n tag) p .notOffline (State.matchClaim p n tag (State.extendClaim n))

end Sys2Proof.Machine
end

