-- ==== Sys2Proof/Machine/Engine.lean ====
section
/-! DEFINITION. The transfer engine (chapter 7): the start of a service, the answers of the memory bus, the end of a
service, RUN, HALT and ABORT, and the transaction that the memory port carries. -/

namespace Sys2Proof.Machine

/-! ### Descriptors (R133, R136, R192) -/

/-- Unit size of a descriptor's code (Table 10-12). -/
def unitOfCode (c : BitVec 2) : Option UnitSize :=
  match c.toNat with
  | 0 => some .one
  | 1 => some .two
  | 2 => some .four
  | _ => none

/-- Address step of a descriptor's code (Table 10-12). -/
def stepOfCode (c : BitVec 2) : Option AddrStep :=
  match c.toNat with
  | 0 => some .fixed
  | 1 => some .up
  | 2 => some .down
  | _ => none

/-- Hand-on policy of a descriptor's code (Table 10-12). -/
def policyOfCode (c : BitVec 2) : Option HandOnPolicy :=
  match c.toNat with
  | 0 => some .burst
  | 1 => some .descriptor
  | 2 => some .chain
  | _ => none

/-- The bytes of a unit (R133). -/
def UnitSize.bytes : UnitSize → Nat
  | .one => 1
  | .two => 2
  | .four => 4

/-- The unit-size field, bits 1:0 of the control word (Table 10-12). -/
def unitField (control : Word) : BitVec 2 := control.extractLsb' 0 2
/-- The source step field, bits 3:2 (Table 10-12). -/
def srcStepField (control : Word) : BitVec 2 := control.extractLsb' 2 2
/-- The destination step field, bits 5:4 (Table 10-12). -/
def dstStepField (control : Word) : BitVec 2 := control.extractLsb' 4 2
/-- The burst field, bits 10:6 (Table 10-12). -/
def burstField (control : Word) : Nat := (control.extractLsb' 6 5).toNat
/-- The hand-on policy field, bits 12:11 (Table 10-12). -/
def policyField (control : Word) : BitVec 2 := control.extractLsb' 11 2
/-- The remaining count field, bits 31:16 (Table 10-12). -/
def countField (control : Word) : BitVec 16 := control.extractLsb' 16 16

/-- The link of a link word: present when bit 0 is 1, its address the word with bits 3:0 taken as 0 (R192). -/
def linkOf (w : Word) : Option Word := if w.getLsbD 0 then some (w &&& 0xFFFFFFF0#32) else none

/-- The descriptor check (R136): the first reason of Table 7-5 that holds, or the working record of a valid descriptor at
its entry to MOVE (R135, R137). -/
def checkDescriptor (control src dst link : Word) : Except BadDescriptor Work :=
  match unitOfCode (unitField control) with
  | none => .error .badUnit
  | some unit =>
    match stepOfCode (srcStepField control), stepOfCode (dstStepField control) with
    | some srcStep, some dstStep =>
      match policyOfCode (policyField control) with
      | none => .error .badPolicy
      | some policy =>
        if burstField control = 0 ∨ 16 < burstField control then .error .badBurst
        else if countField control = 0 then .error .zeroCount
        else if src.toNat % unit.bytes ≠ 0 then .error .misalignedSource
        else if dst.toNat % unit.bytes ≠ 0 then .error .misalignedDestination
        else .ok { control, unit, srcStep, dstStep, policy, link := linkOf link, src, dst
                   count := countField control
                   left := min (burstField control) (countField control).toNat }
    | _, _ => .error .badStep

/-- An address after one completed unit, modulo 2 to the power 32 (R138). -/
def stepAddr (st : AddrStep) (u : UnitSize) (a : Word) : Word :=
  match st with
  | .fixed => a
  | .up    => a + BitVec.ofNat 32 u.bytes
  | .down  => a - BitVec.ofNat 32 u.bytes

/-- The working record after one completed unit (R137). -/
def Work.completeUnit (w : Work) : Work :=
  { w with src := stepAddr w.srcStep w.unit w.src, dst := stepAddr w.dstStep w.unit w.dst,
           count := w.count - 1, left := w.left - 1 }

/-- The control word of the writeback: every bit as fetched but the count (R139, R192). -/
def Work.controlOut (w : Work) : Word := w.count ++ w.control.extractLsb' 0 16

/-- The bits of a read answer that a unit of this size carries (R131, R137). -/
def UnitSize.data (u : UnitSize) (d : Word) : Word :=
  match u with
  | .one  => d &&& 0xFF#32
  | .two  => d &&& 0xFFFF#32
  | .four => d

/-! ### The memory port (R131, R132) -/

/-- A transaction on the memory port. -/
structure BusCycle where
  write   : Bool
  address : Word
  bytes   : Nat
  data    : Word
  deriving DecidableEq, Repr

/-- The transaction of a service that waits for its answer (Table 7-3, R139). -/
def Service.cycle (v : Service) : BusCycle :=
  match v.phase with
  | .fetch0 => ⟨false, v.descAddr, 4, 0⟩
  | .fetch1 _ => ⟨false, v.descAddr + 4, 4, 0⟩
  | .fetch2 _ _ => ⟨false, v.descAddr + 8, 4, 0⟩
  | .fetch3 _ _ _ => ⟨false, v.descAddr + 12, 4, 0⟩
  | .moveRead w => ⟨false, w.src, w.unit.bytes, 0⟩
  | .moveWrite w d => ⟨true, w.dst, w.unit.bytes, d⟩
  | .writeback w 0 => ⟨true, v.descAddr, 4, w.controlOut⟩
  | .writeback w 1 => ⟨true, v.descAddr + 4, 4, w.src⟩
  | .writeback w 2 => ⟨true, v.descAddr + 8, 4, w.dst⟩

/-- The transaction that the memory port carries, if any (R131). -/
def State.memoryPort (s : State) : Option BusCycle := s.service.map Service.cycle

/-! ### Start and end of a service -/

/-- SERVICE_START (R128): the head source of the queue goes to ENGINE_ACTIVE and the first descriptor read is issued. The
start is taken only by an IDLE, RUNNING engine with a source in its queue. -/
def State.startService (s : State) : State :=
  match s.service, s.running, s.engineQueue with
  | none, true, n :: rest =>
    match (s.source n).route.descAddr with
    | some d =>
      { s.modSource n (fun e => { e with state := .engineActive }) with
        engineQueue := rest,
        service := some { src := n, descAddr := d, abort := false, moveFault := false, phase := .fetch0 } }
    | none => s
  | _, _, _ => s

/-- SERVICE_START (R128). -/
def execServiceStart (s : State) : Host.Outcome State Fault Refusal := .next s.startService

/-- The end of a service in the Source Table and the engine (R142): the descriptor address becomes `addr`, the records of
the happening are handed, and the occurrence is handed on with `flag`, or ends under R11 when `flag` is absent. The
occurrence of a source whose enable is off is discarded (R21, R151). -/
def State.endService (s : State) (n : SourceId) (addr : Option Word) (records : List FaultRecord)
    (flag : Option EngineFlag) : State :=
  let s := { s.modSource n (fun e => { e with route := { e.route with descAddr := addr } }) with service := none }
  let s := records.foldl State.handRecord s
  match flag with
  | some f =>
    if (s.source n).route.enable then
      (s.modSource n fun e =>
        { e with state := .latched, exclusion := none, flags := e.flags.withEngine f }).enterBack n
    else s.setSource n (s.source n).toDisabled
  | none => s.endOccurrence n

/-- A record that the transfer engine hands (Table 7-7). -/
def State.engineRecord (s : State) (v : Service) (address : Word) (detail : FaultDetail) : FaultRecord where
  src     := some v.src
  port    := none
  tag     := some (s.source v.src).tag
  address := some address
  detail  := detail
  dropped := 0

/-- The ENGINE_BUS_ERROR record of the transaction in progress (R143, R144, R145). -/
def State.busErrorRecord (s : State) (v : Service) (ph : BusPhase) : FaultRecord :=
  s.engineRecord v v.cycle.address (.engineBusError ph)

/-- The service goes on in phase `ph`. -/
def State.setPhase (s : State) (v : Service) (ph : Phase) : State :=
  { s with service := some { v with phase := ph } }

/-- The descriptor address after a complete writeback without a bus error (R140). -/
def addressAfter (v : Service) (w : Work) : Option Word :=
  if w.count = 0 then w.link else some v.descAddr

/-- The hand-on of a complete writeback without bus error and abort, by the policy (R141). -/
def Work.handsOn (w : Work) : Bool :=
  match w.policy with
  | .burst      => true
  | .descriptor => w.count == 0
  | .chain      => w.count == 0 && w.link.isNone

/-- The end of a service whose writeback is complete (Table 7-6, R140, R141, R144, R149). -/
def State.endWriteback (s : State) (v : Service) (w : Work) : State :=
  if v.moveFault then s.endService v.src none [] (some .fault)
  else if v.abort then s.endService v.src (addressAfter v w) [] (some .aborted)
  else s.endService v.src (addressAfter v w) [] (if w.handsOn then some .done else none)

/-! ### Answers of the memory bus -/

/-- The fourth descriptor word has been read: an aborted fetch ends the service (R148); otherwise the descriptor is checked
and the service goes to MOVE or ends (R136, R143). -/
def State.fetchDone (s : State) (v : Service) (control src dst link : Word) : State :=
  if v.abort then s.endService v.src (some v.descAddr) [] (some .aborted)
  else
    match checkDescriptor control src dst link with
    | .ok w => s.setPhase v (.moveRead w)
    | .error why =>
      s.endService v.src none [s.engineRecord v v.descAddr (.descriptorInvalid why)] (some .fault)

/-- A descriptor read answered with error ends the service (R143). -/
def State.fetchError (s : State) (v : Service) : State :=
  s.endService v.src none [s.busErrorRecord v .fetch] (some .fault)

/-- The answer to a descriptor read (R135). An answer to no descriptor read is not taken (R131). -/
def State.fetchAnswer (s : State) (a : ReadAnswer) : State :=
  match s.service with
  | none => s
  | some v =>
    match v.phase, a with
    | .fetch0, .completed d => s.setPhase v (.fetch1 d)
    | .fetch1 c, .completed d => s.setPhase v (.fetch2 c d)
    | .fetch2 c x, .completed d => s.setPhase v (.fetch3 c x d)
    | .fetch3 c x y, .completed d => s.fetchDone v c x y d
    | .fetch0, .error => s.fetchError v
    | .fetch1 _, .error => s.fetchError v
    | .fetch2 _ _, .error => s.fetchError v
    | .fetch3 _ _ _, .error => s.fetchError v
    | .moveRead _, _ => s
    | .moveWrite _ _, _ => s
    | .writeback _ _, _ => s

/-- FETCH_ANSWER (R135). -/
def execFetchAnswer (a : ReadAnswer) (s : State) : Host.Outcome State Fault Refusal :=
  .next (s.fetchAnswer a).updateAttention

/-- A unit read or write answered with error: the record is handed, the move fault recorded, and the writeback starts
(R144). -/
def State.moveError (s : State) (v : Service) (w : Work) (ph : BusPhase) : State :=
  (s.handRecord (s.busErrorRecord v ph)).setPhase { v with moveFault := true } (.writeback w 0)

/-- The answer to a unit read (R137). An answer to no unit read is not taken (R131). -/
def State.unitReadAnswer (s : State) (a : ReadAnswer) : State :=
  match s.service with
  | none => s
  | some v =>
    match v.phase with
    | .moveRead w =>
      match a with
      | .completed d => s.setPhase v (.moveWrite w (w.unit.data d))
      | .error => s.moveError v w .moveRead
    | _ => s

/-- UNIT_READ_ANSWER (R137). -/
def execUnitReadAnswer (a : ReadAnswer) (s : State) : Host.Outcome State Fault Refusal :=
  .next (s.unitReadAnswer a).updateAttention

/-- The unit is completed: the next unit is read, or the service goes to WRITEBACK when none is left in the burst (R137)
or an abort is pending (R149). -/
def State.unitDone (s : State) (v : Service) (w : Work) : State :=
  if w.left = 0 ∨ v.abort then s.setPhase v (.writeback w 0) else s.setPhase v (.moveRead w)

/-- The answer to a unit write (R137). An answer to no unit write is not taken (R131). -/
def State.unitWriteAnswer (s : State) (a : WriteAnswer) : State :=
  match s.service with
  | none => s
  | some v =>
    match v.phase with
    | .moveWrite w _ =>
      match a with
      | .completed => s.unitDone v w.completeUnit
      | .error => s.moveError v w .moveWrite
    | _ => s

/-- UNIT_WRITE_ANSWER (R137). -/
def execUnitWriteAnswer (a : WriteAnswer) (s : State) : Host.Outcome State Fault Refusal :=
  .next (s.unitWriteAnswer a).updateAttention

/-- The answer to a writeback write (R139, R145). An answer to no writeback write is not taken (R131). -/
def State.writebackAnswer (s : State) (a : WriteAnswer) : State :=
  match s.service with
  | none => s
  | some v =>
    match v.phase with
    | .writeback w k =>
      match a, k with
      | .completed, 0 => s.setPhase v (.writeback w 1)
      | .completed, 1 => s.setPhase v (.writeback w 2)
      | .completed, 2 => s.endWriteback v w
      | .error, _ => s.endService v.src none [s.busErrorRecord v .writeback] (some .fault)
    | _ => s

/-- WRITEBACK_ANSWER (R139). -/
def execWritebackAnswer (a : WriteAnswer) (s : State) : Host.Outcome State Fault Refusal :=
  .next (s.writebackAnswer a).updateAttention

/-! ### RUN, HALT and ABORT -/

/-- RUN (R129). -/
def execRun (p : Port) (s : State) : Host.Outcome State Fault Refusal :=
  s.command (.run p) p .leaseHolder fun s => ({ s with running := true }, .ok)

/-- HALT (R129). -/
def execHalt (p : Port) (s : State) : Host.Outcome State Fault Refusal :=
  s.command (.halt p) p .leaseHolder fun s => ({ s with running := false }, .ok)

/-- ABORT of the service in flight (R147). -/
def State.abortService (s : State) : State × Result :=
  match s.service with
  | none => (s, .empty)
  | some v => ({ s with service := some { v with abort := true } }, .ok)

/-- ABORT (R147). -/
def execAbort (p : Port) (s : State) : Host.Outcome State Fault Refusal :=
  s.command (.abort p) p .leaseHolder State.abortService

end Sys2Proof.Machine
end

