-- ==== Sys2Proof/Machine/FaultReads.lean ====
section
/-! DEFINITION. The FAULT read (R177). -/

namespace Sys2Proof.Machine

/-- The head record popped by port `p`: its first word returned, its second word kept as last fault data (R177). -/
def State.popFault (s : State) (p : Port) (r : FaultRecord) (rest : List FaultRecord) : State :=
  let s : State := { s with faults := rest }
  let s := s.modPort p fun q => { q with faultData := some r.secondWord, result := .ok }
  (s.returnWord p r.firstWord).updateAttention

/-- A FAULT read judged by port state and queue (R177). -/
def State.faultRead (p : Port) (s : State) : State :=
  if (s.port p).state = .offline then
    (s.returnWord p (codeWord Result.offline.code)).setResult p .offline
  else
    match s.faults with
    | [] => (s.returnWord p (codeWord Result.empty.code)).setResult p .empty
    | r :: rest => s.popFault p r rest

/-- FAULT (R177). -/
def execFault (p : Port) (s : State) : Host.Outcome State Fault Refusal :=
  s.orHold (.fault p) p (State.faultRead p)

end Sys2Proof.Machine
end

