-- ==== Sys2Proof/Machine/Lines.lean ====
section
/-! DEFINITION. LINE_CHANGE (R28 to R34): a new sample of one event line and what it does to the line's source. -/

namespace Sys2Proof.Machine

/-- The levels with line `l` at `level`. -/
def setLevel (v : Levels) (l : LineId) (level : Bool) : Levels :=
  if level then v ||| BitVec.twoPow 48 l.val else v &&& ~~~(BitVec.twoPow 48 l.val)

/-- Line EVIn feeds source n (R1, R28). -/
def lineSource (l : LineId) : SourceId := ⟨l.val, by omega⟩

/-- The new sample of line `l`: its current sample becomes its previous sample (R28). -/
def State.sampleLine (s : State) (l : LineId) (level : Bool) : State :=
  { s with previousSample := setLevel s.previousSample l (s.currentSample.getLsbD l.val),
           currentSample  := setLevel s.currentSample l level }

/-- A folding line event on a source with an occurrence in hand (Table 2-3, R14, R15). -/
def SourceEntry.foldEvent (e : SourceEntry) : SourceEntry :=
  match e.state with
  | .latched | .offered | .engineWait | .suspended => { e with fold := satAdd e.fold 1 }
  | .claimed | .engineActive => if e.again then { e with fold := satAdd e.fold 1 } else { e with again := true }
  | .idle | .disabled => e

/-- A qualifying edge on an enabled edge-detected source (R31). -/
def State.qualifyingEdge (s : State) (n : SourceId) : State :=
  if (s.source n).state = .idle then s.latch n else s.modSource n SourceEntry.foldEvent

/-- An activation of an enabled level-detected source (R33). -/
def State.activation (s : State) (n : SourceId) : State :=
  if (s.source n).state = .idle then s.latch n else s

/-- The change of a line to `level`, judged against the detection setting of its source (R30). A source whose enable is
off takes no line event (R6, R30). -/
def State.judgeChange (s : State) (n : SourceId) (level : Bool) : State :=
  if (s.source n).route.enable then
    match (s.source n).route.detection with
    | some d => if d.qualifies level then s.qualifyingEdge n else if d.active level then s.activation n else s
    | none => s
  else s

/-- LINE_CHANGE: line `l` is sampled at `level`; a sample equal to the current one is no change (R28). While RESET is
asserted no sample is taken (R29). -/
def execLineChange (l : LineId) (level : Bool) (s : State) : Host.Outcome State Fault Refusal :=
  .next <|
    if s.resetNote.isSome then s
    else if s.currentSample.getLsbD l.val = level then s.sampleLine l level
    else ((s.sampleLine l level).judgeChange (lineSource l) level).updateAttention

end Sys2Proof.Machine
end

