-- ==== Sys2Proof/Machine/Placement.lean ====
section
/-! DEFINITION. PLACEMENT (R51 to R61): which backlog entry is placed, where, and what the placement writes. -/

namespace Sys2Proof.Machine

/-- Some eligible port other than `p` is ONLINE (R55). -/
def State.otherEligibleOnline (s : State) (r : Route) (p : Port) : Bool :=
  allPorts.any fun q => q != p && r.eligibleFor q && s.online q

/-- Port `p` is the entry's exclusion and is set aside (R55). -/
def State.setAside (s : State) (e : SourceEntry) (p : Port) : Bool :=
  e.exclusion == some p && s.otherEligibleOnline e.route p

/-- Port `p` is a candidate of the entry: eligible, ONLINE, with room, and not set aside (R55 to R57, R59). -/
def State.candidate (s : State) (e : SourceEntry) (p : Port) : Bool :=
  e.route.eligibleFor p && s.online p && decide ((s.queue p).length < Config.offerRoom) && !s.setAside e p

/-- The candidate set, in ascending order of port (R57). -/
def State.candidates (s : State) (e : SourceEntry) : List Port := allPorts.filter (s.candidate e)

/-- The ports in rotation, starting with the port after `p` (R58). -/
def rotationAfter (p : Port) : List Port := [p + 1, p + 2, p + 3, p]

/-- Candidate `p` has the smallest load of the candidates (R57). -/
def State.leastLoaded (s : State) (cands : List Port) (p : Port) : Bool :=
  cands.contains p && cands.all fun q => decide (s.load p ≤ s.load q)

/-- The port that a SHARED placement chooses: the smallest load, ties broken by the rotation (R57, R58). -/
def State.sharedChoice (s : State) (e : SourceEntry) : Option Port :=
  (rotationAfter e.lastChosen).find? (s.leastLoaded (s.candidates e))

/-- The ports whose queues a host-bound entry would be written into; none while the entry waits (R56, R57, R59). -/
def State.hostPlace (s : State) (e : SourceEntry) : List Port :=
  match e.route.mode with
  | .fixed   => (s.candidates e).take 1
  | .shared  => (s.sharedChoice e).toList
  | .contest => s.candidates e

/-- Where a backlog entry has its place (R53). -/
inductive Place where
  | engine
  | hosts (ports : List Port)
  deriving DecidableEq, Repr

/-- The place of source `n`, if it has one now (R53, R54, R56, R57, R59). -/
def State.placeOf (s : State) (n : SourceId) : Option Place :=
  let e := s.source n
  if e.engineBound then
    if s.engineQueue.length < Config.engineRoom then some .engine else none
  else
    match s.hostPlace e with
    | [] => none
    | p :: ps => some (.hosts (p :: ps))

/-- The first backlog entry that has a place, with its place (R51). -/
def State.firstPlaceable (s : State) : Option (BacklogEntry × Place) :=
  s.backlog.findSome? fun b => (s.placeOf b.src).map fun pl => (b, pl)

/-- Placement into the engine queue (R54). -/
def State.placeEngine (s : State) (n : SourceId) : State :=
  let s := (s.dropEntry n).modSource n fun e => { e with state := .engineWait, exclusion := none }
  { s with engineQueue := s.engineQueue ++ [n] }

/-- The offer that a placement writes (R61, R71). -/
def placementOffer (b : BacklogEntry) (e : SourceEntry) (ports : List Port) : Offer where
  src     := b.src
  cls     := b.cls
  tag     := e.tag + 1
  flags   := e.flags
  contest := e.route.mode == .contest && decide (2 ≤ ports.length)

/-- The source entry after a placement to hosts; a SHARED placement sets the last-chosen pointer (R58, R61). -/
def SourceEntry.offeredAt (e : SourceEntry) (ports : List Port) : SourceEntry :=
  { e with state := .offered, tag := e.tag + 1, exclusion := none,
           lastChosen := if e.route.mode = .shared then ports.headD e.lastChosen else e.lastChosen }

/-- Placement to hosts (R61). -/
def State.placeHosts (s : State) (b : BacklogEntry) (ports : List Port) : State :=
  let o := placementOffer b (s.source b.src) ports
  ports.foldl (fun s p => s.putOffer p o) ((s.dropEntry b.src).modSource b.src fun e => e.offeredAt ports)

/-- One placement: the first backlog entry that has a place; with none, the dispatch unit takes no placement (R51). -/
def State.place (s : State) : State :=
  match s.firstPlaceable with
  | some (b, .engine) => s.placeEngine b.src
  | some (b, .hosts ports) => (s.placeHosts b ports).updateAttention
  | none => s

/-- PLACEMENT (R51). -/
def execPlacement (s : State) : Host.Outcome State Fault Refusal := .next s.place

end Sys2Proof.Machine
end

