-- ==== Sys2Proof/Machine/Ports.lean ====
section
/-! DEFINITION. Port states, the configuration lease, the route staging and the port settings (chapter 8): JOIN, LEAVE,
LEASE TAKE, LEASE DROP, ROUTE SELECT, STAGING 0, STAGING 1, FLOOR, FAULT WATCH, and the accesses of R183 and R184 that
act on nothing. -/

namespace Sys2Proof.Machine

/-- JOIN takes the port to ONLINE (R156). -/
def State.joinPort (p : Port) (s : State) : State × Result :=
  ((s.modPort p fun r => { r with state := .online }).updateAttention, .ok)

/-- JOIN (R156). -/
def execJoin (p : Port) (s : State) : Host.Outcome State Fault Refusal :=
  s.command (.join p) p .anyState (State.joinPort p)

/-- The port out of ONLINE: DRAINING when it holds claims, OFFLINE when not (R157). -/
def State.leftState (s : State) (p : Port) : PortState :=
  if s.claimCount p = 0 then .offline else .draining

/-- A source entry at the LEAVE of port `p` (R77, Table 4-3). -/
def State.entryAtLeave (s : State) (p : Port) (n : SourceId) : SourceEntry :=
  if s.returnsFrom p n then (s.source n).reenter (withdrawalExclusion (s.source n) p) else s.source n

/-- The LEAVE of an ONLINE port before its backlog entries: offers withdrawn, lease freed, state left (R157). -/
def State.withdrawPort (s : State) (p : Port) : State :=
  { s with
    sources := ⟨⟨allSources.map (s.entryAtLeave p)⟩, by simp [allSources]⟩
    offers  := s.offers.set p []
    lease   := if s.lease = some p then none else s.lease
    ports   := s.ports.set p { s.port p with state := s.leftState p } }

/-- LEAVE at a port that is not OFFLINE: at DRAINING nothing changes; at ONLINE the offers are withdrawn and the returned
sources enter the backlog as one group (R157, R48). -/
def State.leavePort (p : Port) (s : State) : State × Result :=
  if s.online p then
    (((s.withdrawPort p).enterFront (allSources.filter (s.returnsFrom p))).updateAttention, .ok)
  else (s, .ok)

/-- LEAVE (R157). -/
def execLeave (p : Port) (s : State) : Host.Outcome State Fault Refusal :=
  s.command (.leave p) p .notOffline (State.leavePort p)

/-- LEASE TAKE (R166). -/
def State.takeLease (p : Port) (s : State) : State × Result :=
  match s.lease with
  | none => ({ s with lease := some p }, .ok)
  | some q => (s, if q = p then .ok else .leased)

/-- LEASE TAKE (R166). -/
def execLeaseTake (p : Port) (s : State) : Host.Outcome State Fault Refusal :=
  s.command (.leaseTake p) p .onlineOnly (State.takeLease p)

/-- LEASE DROP (R166). -/
def State.dropLease (p : Port) (s : State) : State × Result :=
  if s.lease = some p then ({ s with lease := none }, .ok) else (s, .nolease)

/-- LEASE DROP (R166). -/
def execLeaseDrop (p : Port) (s : State) : Host.Outcome State Fault Refusal :=
  s.command (.leaseDrop p) p .onlineOnly (State.dropLease p)

/-- ROUTE SELECT (R169): the staging becomes a copy of the live route record. -/
def State.selectRoute (p : Port) (n : SourceId) (s : State) : State × Result :=
  (s.modPort p fun r => { r with selected := n, staging := (s.source n).route.toStaging }, .ok)

/-- ROUTE SELECT (R169). -/
def execRouteSelect (p : Port) (n : SourceId) (s : State) : Host.Outcome State Fault Refusal :=
  s.command (.routeSelect p n) p .onlineOnly (State.selectRoute p n)

/-- A write of STAGING 0 (R187). -/
def State.writeStaging0 (p : Port) (w : Word) (s : State) : State × Result :=
  match (s.port p).staging.write0 w with
  | some g => (s.modPort p fun r => { r with staging := g }, .ok)
  | none => (s, .invalid)

/-- STAGING 0 (R187). -/
def execStaging0 (p : Port) (w : Word) (s : State) : Host.Outcome State Fault Refusal :=
  s.command (.staging0 p w) p .onlineOnly (State.writeStaging0 p w)

/-- A write of STAGING 1 (R187). -/
def State.writeStaging1 (p : Port) (w : Word) (s : State) : State × Result :=
  (s.modPort p fun r => { r with staging := { r.staging with descAddr := w } }, .ok)

/-- STAGING 1 (R187). -/
def execStaging1 (p : Port) (w : Word) (s : State) : Host.Outcome State Fault Refusal :=
  s.command (.staging1 p w) p .onlineOnly (State.writeStaging1 p w)

/-- A FLOOR write: 0 to 8 becomes the class floor, a higher value is refused (R83, R171). -/
def State.writeFloor (p : Port) (v : BitVec 4) (s : State) : State × Result :=
  if h : v.toNat < 9 then
    ((s.modPort p fun r => { r with floor := ⟨v.toNat, h⟩ }).updateAttention, .ok)
  else (s, .invalid)

/-- FLOOR (R171). -/
def execFloor (p : Port) (v : BitVec 4) (s : State) : Host.Outcome State Fault Refusal :=
  s.command (.floor p v) p .onlineOnly (State.writeFloor p v)

/-- A FAULT WATCH write (R84, R171). -/
def State.writeWatch (p : Port) (on : Bool) (s : State) : State × Result :=
  ((s.modPort p fun r => { r with faultWatch := on }).updateAttention, .ok)

/-- FAULT WATCH (R171). -/
def execFaultWatch (p : Port) (on : Bool) (s : State) : Host.Outcome State Fault Refusal :=
  s.command (.faultWatch p on) p .onlineOnly (State.writeWatch p on)

/-- NARROW_TAKE_READ (R183): nothing is taken, and the word returned is 0. -/
def execNarrowTakeRead (p : Port) (reg : TakeRegister) (enables : Fin 15) (s : State) :
    Host.Outcome State Fault Refusal :=
  s.orHold (.narrowTakeRead p reg enables) p fun s => s.returnWord p 0

/-- UNDEFINED_ACCESS (R183, R184): a write is ignored, a read returns 0. A term whose access Table 10-2 defines spells no
command of this row and is refused. -/
def execUndefinedAccess (p : Port) (a : Access) (s : State) : Host.Outcome State Fault Refusal :=
  if a.undefined then
    s.orHold (.undefinedAccess p a) p fun s => if a.write then s else s.returnWord p 0
  else .refused .definedAccess

end Sys2Proof.Machine
end

