-- ==== Sys2Proof/Machine/Posts.lean ====
section
/-! DEFINITION. POST and UNPOST (R38 to R42). -/

namespace Sys2Proof.Machine

/-- The payloads of source `n` in its queue and in its claim (R36). -/
def State.payloadTotal (s : State) (n : SourceId) : Nat :=
  (s.source n).payloads.length +
    match s.claimOf n with
    | some c => c.payload.toList.length
    | none => 0

/-- POST of `d` to source `n`, judged in the order of Table 2-5 (R38). -/
def State.postPayload (n : SourceId) (d : Payload) (s : State) : State × Result :=
  if !isPosted n then (s, .invalid)
  else if !(s.source n).route.enable then (s, .disabled)
  else if Config.payloadRoom ≤ s.payloadTotal n then (s, .full)
  else
    let idle := (s.source n).state == .idle
    let s := s.modSource n fun e => { e with payloads := e.payloads ++ [d] }
    ((if idle then s.latch n else s).updateAttention, .ok)

/-- POST (R38). -/
def execPost (p : Port) (n : SourceId) (d : Payload) (s : State) : Host.Outcome State Fault Refusal :=
  s.command (.post p n d) p .onlineOnly (State.postPayload n d)

/-- The current occurrence of a LATCHED or OFFERED posted source is discarded with its head payload; the next payload
latches, or the source goes to IDLE (R40). -/
def State.discardHead (s : State) (n : SourceId) : State :=
  let s := s.modSource n fun e => { e with payloads := e.payloads.tail }
  if (s.source n).payloads.isEmpty then s.modSource n SourceEntry.toIdle else s.latch n

/-- UNPOST of source `n` (R40, R41, R42). -/
def State.unpostSource (n : SourceId) (s : State) : State × Result :=
  if !isPosted n then (s, .invalid)
  else if !(s.source n).route.enable then (s, .disabled)
  else
    match (s.source n).state with
    | .latched => (((s.dropEntry n).discardHead n).updateAttention, .ok)
    | .offered => (((s.withdraw (fun _ => true) n).discardHead n).updateAttention, .ok)
    | .claimed =>
      match (s.source n).payloads with
      | [] => (s, .empty)
      | _ :: rest => (s.modSource n fun e => { e with payloads := rest }, .ok)
    | .suspended =>
      match (s.source n).payloads with
      | head :: _ :: rest => (s.modSource n fun e => { e with payloads := head :: rest }, .ok)
      | _ => (s, .empty)
    | .idle | .disabled | .engineWait | .engineActive => (s, .empty)

/-- UNPOST (R40, R41, R42). -/
def execUnpost (p : Port) (n : SourceId) (s : State) : Host.Outcome State Fault Refusal :=
  s.command (.unpost p n) p .onlineOnly (State.unpostSource n)

end Sys2Proof.Machine
end

