-- ==== Sys2Proof/Machine/Resets.lean ====
section
/-! DEFINITION. POWER_ON, PART_RESET, RESET_RELEASE and PORT_RESET (R26, R27, R160, R180). -/

namespace Sys2Proof.Machine

/-- POWER_ON (R26): every piece of state at its power-on value, the lines' first sample at `levels` (R29). Accesses held
on the local buses come to the front of the queue (DESIGN CHOICE, log entry 2). -/
def execPowerOn (levels : Levels) (s : State) : Host.Outcome State Fault Refusal :=
  .next { State.powerOn levels with pending := s.held ++ s.pending }

/-- A source entry at part reset: to IDLE or DISABLED by its enable, the payload queue emptied, the tag and the route
record kept, the last-chosen pointer at P3 and the unserved mark clear (R27, R58, R69). -/
def SourceEntry.partReset (e : SourceEntry) : SourceEntry :=
  { (if e.route.enable then { e.toIdle with payloads := [] } else e.toDisabled) with lastChosen := 3 }

/-- The service that a part reset cuts, as its PART_RESET record names it (R153, R180). -/
def State.cutService (s : State) : Option CutService :=
  match s.service with
  | some v => some ⟨v.src, (s.source v.src).tag, v.descAddr⟩
  | none => none

/-- The part while RESET is asserted (R27, R50, R87, R109, R111, R124, R153, R154, R172, R173). Stored fault records, the
dropped count and the samples are kept (R180, R29). -/
def State.assertReset (s : State) : State :=
  { s with
    sources     := ⟨⟨s.sources.toList.map SourceEntry.partReset⟩, by simp⟩
    backlog     := []
    offers      := Vector.replicate 4 []
    claims      := Vector.replicate 64 none
    ports       := Vector.replicate 4 .default
    lease       := none
    attn        := Vector.replicate 4 false
    prescale    := 0
    divider     := Config.divider
    interval    := Config.divider
    limits      := Config.limits
    engineQueue := []
    running     := true
    service     := none
    resetNote   := some ⟨s.cutService, s.claimTotal⟩ }

/-- PART_RESET (R27): the assertion of RESET. While RESET is already asserted there is nothing more to assert. -/
def execPartReset (s : State) : Host.Outcome State Fault Refusal :=
  .next (if s.resetNote.isSome then s else s.assertReset)

/-- The PART_RESET record (R180). -/
def partResetRecord (note : ResetNote) : FaultRecord where
  src     := note.cut.map CutService.src
  port    := none
  tag     := note.cut.map CutService.tag
  address := note.cut.map CutService.descAddr
  detail  := .partReset note.claims
  dropped := 0

/-- A source after the release of RESET: an enabled level-detected source at its active level latches (R27, R33). -/
def State.latchAtRelease (s : State) (n : SourceId) : State :=
  if (s.source n).route.enable && (s.source n).state == .idle && s.levelActive n then s.latch n else s

/-- The part at the release of RESET: first sample, PART_RESET record, then the level sources in ascending order (R29,
R180), and the held accesses let through but for those of a port whose PRSTn is asserted (R161, R162). -/
def State.releaseReset (s : State) (note : ResetNote) (levels : Levels) : State :=
  let s := State.letThrough
    { s with currentSample := levels, previousSample := levels, prescale := 0, resetNote := none }
  (lineSources.foldl State.latchAtRelease (s.handRecord (partResetRecord note))).updateAttention

/-- RESET_RELEASE (R180). When RESET is not asserted there is nothing to release. -/
def execResetRelease (levels : Levels) (s : State) : Host.Outcome State Fault Refusal :=
  match s.resetNote with
  | some note => .next (s.releaseReset note levels)
  | none => .next s

/-- A source entry at the reset of port `p`: a claim revoked (R110), or an offer withdrawn (R77). -/
def State.entryAtPortReset (s : State) (p : Port) (n : SourceId) : SourceEntry :=
  let e := s.source n
  match s.claimOf n with
  | some c =>
    if c.port == p then
      if e.route.enable then (e.restore c).reenter (some p) else e.toDisabled
    else e
  | none => if s.returnsFrom p n then e.reenter (withdrawalExclusion e p) else e

/-- The sources that the reset of port `p` returns to the backlog, in ascending order (R48, R160). -/
def State.portResetGroup (s : State) (p : Port) : List SourceId :=
  allSources.filter fun n =>
    match s.claimOf n with
    | some c => c.port == p && (s.source n).route.enable
    | none => s.returnsFrom p n

/-- The PORT_RESET record (R160, R176). -/
def portResetRecord (p : Port) (claims : Nat) : FaultRecord where
  src     := none
  port    := some p
  tag     := none
  address := none
  detail  := .portReset claims
  dropped := 0

/-- The claim table without the claims of port `p` (R110). -/
def State.withoutClaimsOf (s : State) (p : Port) : Vector (Option Claim) 64 :=
  ⟨⟨s.claims.toList.map fun c => if c.any (fun c => c.port == p) then none else c⟩, by simp⟩

/-- The reset of port `p` before its backlog entries and records: claims, offers, lease, settings and state (R160). -/
def State.clearPort (s : State) (p : Port) : State :=
  { s with
    sources := ⟨⟨allSources.map (s.entryAtPortReset p)⟩, by simp [allSources]⟩
    offers  := s.offers.set p []
    claims  := s.withoutClaimsOf p
    lease   := if s.lease = some p then none else s.lease
    ports   := s.ports.set p .default }

/-- The whole happening of a port reset (R160): claims, offers, settings and state, then the PORT_RESET record and the
group of R48 with its UNSERVED records. -/
def State.resetPort (s : State) (p : Port) : State :=
  let s1 := s.clearPort p
  let s2 := if s.claimCount p = 0 then s1 else s1.handRecord (portResetRecord p (s.claimCount p))
  (s2.enterFront (s.portResetGroup p)).updateAttention

/-- PRSTn asserted: the port is reset, and takes no access from now on (R160, R161). While RESET is asserted the level alone
changes, and holding PRSTn asserted does not repeat the reset (R161). -/
def State.assertPortReset (s : State) (p : Port) : State :=
  if s.portResets[p] then s
  else if s.resetNote.isSome then s.setPortReset p true
  else (s.setPortReset p true).resetPort p

/-- PORT_RESET: PRSTn asserted (R160), or released, which lets the held accesses of the port through (R161). -/
def execPortReset (prst : PortResetInput) (s : State) : Host.Outcome State Fault Refusal :=
  .next (if prst.asserted then s.assertPortReset prst.port else (s.setPortReset prst.port false).letThrough)

end Sys2Proof.Machine
end

