-- ==== Sys2Proof/Machine/Routes.lean ====
section
/-! DEFINITION. The commands that configure a source: ROUTE COMMIT, DISABLE and RESUME (R20 to R25). -/

namespace Sys2Proof.Machine

/-- The staging fails a check of R23 for source `n`. -/
def Staging.badFor (g : Staging) (n : SourceId) : Bool :=
  (isPosted n && g.detection.isSome) || (!isPosted n && g.detection.isNone) ||
  (isPosted n && g.descPresent) || (g.descPresent && g.descAddr.toNat % 16 != 0) ||
  g.eligible == 0 || (g.mode == .fixed && allPorts.countP (fun p => g.eligible.getLsbD p.val) != 1)

/-- A source entry under a committed route record (R24): to DISABLED with enable off; from DISABLED to IDLE with an empty
payload queue, or unchanged in IDLE, with enable on. -/
def SourceEntry.commit (e : SourceEntry) (r : Route) : SourceEntry :=
  let e' : SourceEntry := { e with route := r }
  if !r.enable then e'.toDisabled
  else if e.state = .disabled then { e'.toIdle with payloads := [] }
  else e'

/-- ROUTE COMMIT of the port's staging to its selected source (R23, R24). -/
def State.commitRoute (p : Port) (s : State) : State × Result :=
  let n := (s.port p).selected
  let g := (s.port p).staging
  let st := (s.source n).state
  if st ≠ .disabled ∧ st ≠ .idle then (s, .busy)
  else if g.badFor n then (s, .invalid)
  else
    let s := s.modSource n fun e => e.commit g.toRoute
    ((if g.enable && s.levelActive n then s.latch n else s).updateAttention, .ok)

/-- ROUTE COMMIT (R23, R24). -/
def execRouteCommit (p : Port) (s : State) : Host.Outcome State Fault Refusal :=
  s.command (.routeCommit p) p .leaseHolder (State.commitRoute p)

/-- The entry of a CLAIMED or ENGINE_ACTIVE source at DISABLE: disable-pending, with queued payloads discarded, fold count
0 and again flag clear (Table 1-7). -/
def SourceEntry.toDisablePending (e : SourceEntry) : SourceEntry :=
  { e with payloads := [], fold := 0, again := false }

/-- DISABLE of source `n` (R20, Table 1-7). -/
def State.disableSource (n : SourceId) (s : State) : State × Result :=
  let s := s.modSource n fun e => { e with route := { e.route with enable := false } }
  let s :=
    match (s.source n).state with
    | .disabled => s
    | .idle | .suspended => s.modSource n SourceEntry.toDisabled
    | .latched => (s.dropEntry n).modSource n SourceEntry.toDisabled
    | .offered => (s.withdraw (fun _ => true) n).modSource n SourceEntry.toDisabled
    | .engineWait =>
      { s.modSource n SourceEntry.toDisabled with engineQueue := s.engineQueue.filter fun m => m != n }
    | .claimed | .engineActive => s.modSource n SourceEntry.toDisablePending
  (s.updateAttention, .ok)

/-- DISABLE (R20). -/
def execDisable (p : Port) (n : SourceId) (s : State) : Host.Outcome State Fault Refusal :=
  s.command (.disable p n) p .leaseHolder (State.disableSource n)

/-- A SUSPENDED entry at RESUME: LATCHED, revocation count 0, no exclusion, REOFFER added (R25). -/
def SourceEntry.resumed (e : SourceEntry) : SourceEntry := { e.reenter none with revocations := 0 }

/-- RESUME of source `n` (R25). -/
def State.resumeSource (n : SourceId) (s : State) : State × Result :=
  if (s.source n).state = .suspended then
    (((s.modSource n SourceEntry.resumed).enterFront [n]).updateAttention, .ok)
  else (s, .invalid)

/-- RESUME (R25). -/
def execResume (p : Port) (n : SourceId) (s : State) : Host.Outcome State Fault Refusal :=
  s.command (.resume p n) p .onlineOnly (State.resumeSource n)

end Sys2Proof.Machine
end

