-- ==== Sys2Proof/Machine/Timers.lean ====
section
/-! DEFINITION. The claim timers: TICK, EXPIRY and the writes of TICK DIVIDER and LIMIT0 to LIMIT3 (R111 to R122), with
the part clock cycle that passes when no command waits. -/

namespace Sys2Proof.Machine

/-- The claim's expiry is due: its remaining ticks are 0 (R114). -/
def Claim.due (c : Claim) : Bool := c.remaining == some 0

/-- Some claim's expiry is due. -/
def State.expiryDue (s : State) : Bool := s.claims.toList.any fun c => c.any Claim.due

/-- A claim after a tick: remaining ticks that are present are lowered by 1 (R114). -/
def Claim.ticked (c : Claim) : Claim := { c with remaining := c.remaining.map fun r => r - 1 }

/-- The tick, with the part clock cycles of the interval that lead to it: the prescale count returns to 0, the accepted
divider comes into force, every timed claim has its remaining ticks lowered (R111, R112, R114), and every line is sampled
again without change (R28, R181). -/
def State.takeTick (s : State) : State :=
  { s with prescale := 0, interval := s.divider, previousSample := s.currentSample,
           claims := ⟨⟨s.claims.toList.map fun c => c.map Claim.ticked⟩, by simp⟩ }

/-- TICK (R111): the rest of the current interval passes and the tick is taken. No tick is taken while RESET is asserted
(R111), nor before the expiries that the last tick made due (R114). -/
def execTick (s : State) : Host.Outcome State Fault Refusal :=
  .next (if s.resetNote.isSome || s.expiryDue then s else s.takeTick)

/-- One part clock cycle with no command (log entry 3): the prescale count rises, or the tick is taken when it reaches the
divider in force (R111); every line is sampled again without change (R28, R181). While RESET is asserted nothing passes
(R29, R111); the cycle that ends the interval waits for the expiries that are due (R114). -/
def State.clockCycle (s : State) : State :=
  if s.resetNote.isSome then s
  else if s.prescale + 1 < s.interval then
    { s with prescale := s.prescale + 1, previousSample := s.currentSample }
  else if s.expiryDue then s
  else s.takeTick

/-- The CLAIM_EXPIRED record (Table 6-2). -/
def claimExpiredRecord (n : SourceId) (c : Claim) (revocations : Fin 4) (disablePending : Bool) : FaultRecord where
  src     := some n
  port    := some c.port
  tag     := some c.tag
  address := none
  detail  := .claimExpired revocations disablePending
  dropped := 0

/-- The ABANDONED record (Table 6-2). -/
def abandonedRecord (n : SourceId) (c : Claim) (fold : Count8) : FaultRecord where
  src     := some n
  port    := some c.port
  tag     := some c.tag
  address := none
  detail  := .abandoned fold
  dropped := 0

/-- The source entry of an expired claim after steps 2 and 3 of R117: payload and fold count given back, revocation count
raised. -/
def SourceEntry.expired (e : SourceEntry) (c : Claim) : SourceEntry :=
  { e.restore c with revocations := revocationsAfter e.revocations }

/-- The expiry of claim `c` of source `n`, in the order of R117 (with R119 and R120). -/
def State.expire (s : State) (n : SourceId) (c : Claim) : State :=
  let e := (s.source n).expired c
  let s := ((s.removeClaim n c.port).setSource n e).handRecord
    (claimExpiredRecord n c e.revocations (!e.route.enable))
  if !e.route.enable then s.setSource n e.toDisabled
  else if e.revocations = 3 then
    (s.setSource n { e with state := .suspended }).handRecord (abandonedRecord n c e.fold)
  else (s.setSource n (e.reenter (some c.port))).enterFront [n]

/-- EXPIRY of the claim of source `n` (R117). An expiry that is not due is not taken (R114). -/
def execExpiry (n : SourceId) (s : State) : Host.Outcome State Fault Refusal :=
  match s.claimOf n with
  | some c => .next (if c.due then (s.expire n c).updateAttention else s)
  | none => .next s

/-- TICK DIVIDER write (R112): the value is judged as a whole word (Table 10-3). -/
def State.writeDivider (v : Word) (s : State) : State × Result :=
  if 1 ≤ v.toNat ∧ v.toNat ≤ Config.dividerMax then ({ s with divider := v.toNat }, .ok) else (s, .invalid)

/-- TICK DIVIDER (R112). -/
def execTickDivider (p : Port) (v : Word) (s : State) : Host.Outcome State Fault Refusal :=
  s.command (.tickDivider p v) p .leaseHolder (State.writeDivider v)

/-- LIMIT write (R113): values above 65535 are refused. -/
def State.writeLimit (i : Fin 4) (v : Word) (s : State) : State × Result :=
  if v.toNat ≤ 65535 then ({ s with limits := s.limits.set i (v.setWidth 16) }, .ok) else (s, .invalid)

/-- LIMIT0 to LIMIT3 (R113). -/
def execLimit (p : Port) (i : Fin 4) (v : Word) (s : State) : Host.Outcome State Fault Refusal :=
  s.command (.limit p i v) p .leaseHolder (State.writeLimit i v)

end Sys2Proof.Machine
end

