-- ==== Sys2Proof/Machine/Dispatch.lean ====
section
/-! DEFINITION. What each command does: one arm per row of spec/opcode_table.json. -/

namespace Sys2Proof.Machine

def exec (i : Instr) (s : State) : Host.Outcome State Fault Refusal :=
  match i with
  | .powerOn levels => Sys2Proof.Machine.execPowerOn levels s
  | .partReset => Sys2Proof.Machine.execPartReset s
  | .resetRelease levels => Sys2Proof.Machine.execResetRelease levels s
  | .portReset prst => Sys2Proof.Machine.execPortReset prst s
  | .lineChange line level => Sys2Proof.Machine.execLineChange line level s
  | .placement => Sys2Proof.Machine.execPlacement s
  | .tick => Sys2Proof.Machine.execTick s
  | .expiry src => Sys2Proof.Machine.execExpiry src s
  | .serviceStart => Sys2Proof.Machine.execServiceStart s
  | .fetchAnswer answer => Sys2Proof.Machine.execFetchAnswer answer s
  | .unitReadAnswer answer => Sys2Proof.Machine.execUnitReadAnswer answer s
  | .unitWriteAnswer answer => Sys2Proof.Machine.execUnitWriteAnswer answer s
  | .writebackAnswer answer => Sys2Proof.Machine.execWritebackAnswer answer s
  | .join p => Sys2Proof.Machine.execJoin p s
  | .leave p => Sys2Proof.Machine.execLeave p s
  | .leaseTake p => Sys2Proof.Machine.execLeaseTake p s
  | .leaseDrop p => Sys2Proof.Machine.execLeaseDrop p s
  | .routeSelect p src => Sys2Proof.Machine.execRouteSelect p src s
  | .staging0 p data => Sys2Proof.Machine.execStaging0 p data s
  | .staging1 p data => Sys2Proof.Machine.execStaging1 p data s
  | .routeCommit p => Sys2Proof.Machine.execRouteCommit p s
  | .disable p src => Sys2Proof.Machine.execDisable p src s
  | .resume p src => Sys2Proof.Machine.execResume p src s
  | .post p src payload => Sys2Proof.Machine.execPost p src payload s
  | .unpost p src => Sys2Proof.Machine.execUnpost p src s
  | .claim p => Sys2Proof.Machine.execClaim p s
  | .complete p src tag => Sys2Proof.Machine.execComplete p src tag s
  | .returnClaim p src tag => Sys2Proof.Machine.execReturnClaim p src tag s
  | .extend p src tag => Sys2Proof.Machine.execExtend p src tag s
  | .floor p value => Sys2Proof.Machine.execFloor p value s
  | .faultWatch p on => Sys2Proof.Machine.execFaultWatch p on s
  | .tickDivider p value => Sys2Proof.Machine.execTickDivider p value s
  | .limit p index value => Sys2Proof.Machine.execLimit p index value s
  | .run p => Sys2Proof.Machine.execRun p s
  | .halt p => Sys2Proof.Machine.execHalt p s
  | .abort p => Sys2Proof.Machine.execAbort p s
  | .fault p => Sys2Proof.Machine.execFault p s
  | .narrowTakeRead p reg enables => Sys2Proof.Machine.execNarrowTakeRead p reg enables s
  | .undefinedAccess p access => Sys2Proof.Machine.execUndefinedAccess p access s

end Sys2Proof.Machine
end

