-- ==== Sys2Proof/Safety.lean ====
section
/-! DEFINITION. What the spec promises of every state that a run reaches: the collections agree with the source states
(R5), the queues keep their room and their order, the claim table, the ports and the lease agree, a source's fields fit
its state, the time base keeps its range, and the attention outputs follow their conditions. `Inv` gathers them. Then the
terms in which the statements of Certificates/Slice0/Obligations.lean say what a step changes. -/

namespace Sys2Proof.Machine

/-- The backlog holds exactly the LATCHED sources, each once, in class bands from 7 down to 0, each entry with its
source's class (R5, R46). -/
structure BacklogOk (s : State) : Prop where
  nodup   : (s.backlog.map BacklogEntry.src).Nodup
  ordered : s.backlog.Pairwise fun a b => b.cls ≤ a.cls
  classes : ∀ b ∈ s.backlog, b.cls = (s.source b.src).route.cls
  latched : ∀ n, (s.source n).state = .latched ↔ n ∈ s.backlog.map BacklogEntry.src

/-- Each offer queue holds at most 16 offers, each source at most once, in class bands; the queue of a port that is not
ONLINE is empty; offers agree with their OFFERED sources; only CONTEST sources stand in several queues (R5, R70 to R72). -/
structure OffersOk (s : State) : Prop where
  room    : ∀ p, (s.queue p).length ≤ Config.offerRoom
  nodup   : ∀ p, ((s.queue p).map Offer.src).Nodup
  ordered : ∀ p, (s.queue p).Pairwise fun a b => b.cls ≤ a.cls
  online  : ∀ p, s.online p = false → s.queue p = []
  agree   : ∀ p, ∀ o ∈ s.queue p, (s.source o.src).state = .offered ∧ o.cls = (s.source o.src).route.cls ∧
              o.tag = (s.source o.src).tag ∧ o.flags = (s.source o.src).flags ∧
              (s.source o.src).route.eligibleFor p = true
  offered : ∀ n, (s.source n).state = .offered → ∃ p, s.hasOffer p n = true
  contest : ∀ n p q, s.hasOffer p n = true → s.hasOffer q n = true → p ≠ q → (s.source n).route.mode = .contest

/-- The source is level-detected (Table 2-2). -/
def SourceEntry.levelDetected (e : SourceEntry) : Bool :=
  e.route.detection == some .high || e.route.detection == some .low

/-- A source has a claim exactly when it is CLAIMED; a port holds at most 8; a claim carries its source's tag, class and
flags, and a payload exactly for a posted source; it delivered no fold count for a posted or level-detected source (R5,
R14, R88, R89). -/
structure ClaimsOk (s : State) : Prop where
  claimed  : ∀ n, (s.claimOf n).isSome = true ↔ (s.source n).state = .claimed
  room     : ∀ p, s.claimCount p ≤ Config.claimRoom
  agree    : ∀ n c, s.claimOf n = some c → c.tag = (s.source n).tag ∧ c.cls = (s.source n).route.cls ∧
              c.flags = (s.source n).flags ∧ c.payload.isSome = isPosted n
  unfolded : ∀ n c, s.claimOf n = some c → isPosted n = true ∨ (s.source n).levelDetected = true → c.fold = 0

/-- The working record of a service, from the end of its FETCH on (Table 7-2). -/
def Phase.work? : Phase → Option Work
  | .moveRead w => some w
  | .moveWrite w _ => some w
  | .writeback w _ => some w
  | .fetch0 | .fetch1 _ | .fetch2 _ _ | .fetch3 _ _ _ => none

/-- The service is in WRITEBACK (R127). -/
def Phase.isWriteback : Phase → Bool
  | .writeback _ _ => true
  | _ => false

/-- The working record of a service that moves units: units are left, no more than the count or 16, and both addresses
are multiples of the unit size (R136 to R138). -/
def Work.moving (w : Work) : Prop :=
  1 ≤ w.left ∧ w.left ≤ w.count.toNat ∧ w.left ≤ 16 ∧ w.src.toNat % w.unit.bytes = 0 ∧ w.dst.toNat % w.unit.bytes = 0

/-- The engine queue holds at most 8 sources, exactly the ENGINE_WAIT ones, each once and armed; the service in flight is
that of the one ENGINE_ACTIVE source and works at its descriptor address; its link is a multiple of 16, and it holds a
move fault only in WRITEBACK (R5, R125, R128, R133, R144). -/
structure EngineOk (s : State) : Prop where
  room    : s.engineQueue.length ≤ Config.engineRoom
  nodup   : s.engineQueue.Nodup
  waiting : ∀ n, (s.source n).state = .engineWait ↔ n ∈ s.engineQueue
  active  : ∀ n, (s.source n).state = .engineActive ↔ ∃ v, s.service = some v ∧ v.src = n
  armed   : ∀ n, (s.source n).state = .engineWait → (s.source n).engineBound = true
  address : ∀ v, s.service = some v → (s.source v.src).route.descAddr = some v.descAddr
  moving  : ∀ v w, s.service = some v → v.phase.work? = some w → v.phase.isWriteback = false → w.moving
  link    : ∀ v w a, s.service = some v → v.phase.work? = some w → w.link = some a → a.toNat % 16 = 0
  fault   : ∀ v, s.service = some v → v.moveFault = true → v.phase.isWriteback = true

/-- An OFFLINE port holds no claims, a DRAINING port holds at least one, and the lease is free or held by an ONLINE port
(R155, R166). -/
structure PortsOk (s : State) : Prop where
  offline  : ∀ p, (s.port p).state = .offline → s.claimCount p = 0
  draining : ∀ p, (s.port p).state = .draining → 0 < s.claimCount p
  lease    : ∀ p, s.lease = some p → s.online p = true

/-- A route record that the part can hold for source `n` (Table 1-2, R23). -/
structure RouteOk (n : SourceId) (r : Route) : Prop where
  detection : r.detection.isSome = !isPosted n
  unarmed   : isPosted n = true → r.descAddr = none
  eligible  : r.eligible ≠ 0
  fixed     : r.mode = .fixed → allPorts.countP r.eligibleFor = 1
  aligned   : ∀ a, r.descAddr = some a → a.toNat % 16 = 0

/-- The per-occurrence fields fit the state of the source (R13 to R19, R36, R37, R62, R64). -/
structure EntryOk (s : State) (n : SourceId) (e : SourceEntry) : Prop where
  route     : RouteOk n e.route
  enabled   : e.state = .disabled ∨ e.state = .claimed ∨ e.state = .engineActive ∨ e.route.enable = true
  disabled  : e.state = .disabled → e.route.enable = false
  cleared   : e.state = .idle ∨ e.state = .disabled → e.fold = 0 ∧ e.again = false ∧ e.exclusion = none ∧
                e.flags = .none ∧ e.payloads = [] ∧ e.unserved = false
  suspended : e.revocations = 3 ↔ e.state = .suspended
  counted   : e.state = .idle ∨ e.state = .disabled → e.revocations = 0
  again     : e.again = true → (e.state ≠ .idle ∧ e.state ≠ .disabled) ∧ e.route.enable = true
  excluded  : e.exclusion ≠ none → e.state = .latched
  engine    : e.state = .engineWait ∨ e.state = .engineActive → e.flags = .none ∧ e.revocations = 0
  fresh     : e.state = .latched → e.engineBound = true → e.flags = .none ∧ e.revocations = 0
  hostPath  : e.state = .offered ∨ e.state = .claimed ∨ e.state = .suspended → e.engineBound = false
  pending   : e.route.enable = false → e.payloads = [] ∧ e.fold = 0 ∧ e.again = false
  posted    : isPosted n = true → e.fold = 0 ∧ e.again = false ∧ e.flags.done = false ∧ e.flags.fault = false ∧
                e.flags.aborted = false
  level     : e.levelDetected = true → e.fold = 0 ∧ e.again = false
  line      : isPosted n = false → e.payloads = []
  payloads  : e.payloads.length + (if isPosted n ∧ (s.claimOf n).isSome then 1 else 0) ≤ Config.payloadRoom
  head      : isPosted n = true → (e.state = .latched ∨ e.state = .offered ∨ e.state = .suspended) → e.payloads ≠ []

/-- The time base: divider and divider in force from 1 to 4096, the prescale count below the latter (Table 6-1, R112). -/
structure TimeOk (s : State) : Prop where
  divider  : 1 ≤ s.divider ∧ s.divider ≤ Config.dividerMax
  interval : 1 ≤ s.interval ∧ s.interval ≤ Config.dividerMax
  prescale : s.prescale < s.interval

/-- ATTNn is asserted exactly when the condition of R85 holds at port n: the port is ONLINE and an offer in its queue has a
class at or above the floor, or the port is ONLINE or DRAINING with fault watch on and the fault queue holds a record (R85,
R86). -/
def AttnOk (s : State) : Prop := ∀ p : Port, s.attn[p] = true ↔
  ((s.port p).state = .online ∧ ∃ o ∈ s.queue p, (s.port p).floor.val ≤ o.cls.val) ∨
    (((s.port p).state = .online ∨ (s.port p).state = .draining) ∧ (s.port p).faultWatch = true ∧ s.faults ≠ [])

/-- The fault queue holds at most 16 records (R174). -/
def FaultsOk (s : State) : Prop := s.faults.length ≤ Config.faultRoom

/-- Port `p` takes accesses: neither RESET nor its PRSTn is asserted (R161, R162). -/
abbrev takesAccesses (s : State) (p : Port) : Prop := s.resetNote = none ∧ s.portResets[p] = false

/-- While RESET is asserted every collection is empty and every port is OFFLINE at its default settings (R27, R172); a port
whose PRSTn is asserted stands as its reset left it (R160, R161); accesses are held only at ports that take none (R161,
R162). -/
structure ResetOk (s : State) : Prop where
  empty : s.resetNote.isSome = true → s.backlog = [] ∧ (∀ p, s.queue p = []) ∧ (∀ n, s.claimOf n = none) ∧
            s.engineQueue = [] ∧ s.service = none ∧ (∀ p, s.port p = .default) ∧ s.lease = none
  port  : ∀ p : Port, s.portResets[p] = true → s.port p = .default
  held  : ∀ c ∈ s.held, ∃ p, accessPort c = some p ∧ ¬takesAccesses s p

/-- The invariant of the part. -/
structure Inv (s : State) : Prop where
  backlog : BacklogOk s
  offers  : OffersOk s
  claims  : ClaimsOk s
  engine  : EngineOk s
  ports   : PortsOk s
  entries : ∀ n, EntryOk s n (s.source n)
  time    : TimeOk s
  attn    : AttnOk s
  faults  : FaultsOk s
  reset   : ResetOk s

/-! ### The terms in which the statements say what a step changes -/

/-- The command writes with the port they arrive at and their row of Table 8-3. -/
def commandRow : Instr → Option (Port × Admission)
  | .join p => some (p, .anyState)
  | .leave p | .complete p _ _ | .returnClaim p _ _ | .extend p _ _ => some (p, .notOffline)
  | .leaseTake p | .leaseDrop p | .routeSelect p _ | .staging0 p _ | .staging1 p _ => some (p, .onlineOnly)
  | .resume p _ | .post p _ _ | .unpost p _ | .floor p _ | .faultWatch p _ => some (p, .onlineOnly)
  | .routeCommit p | .disable p _ | .tickDivider p _ | .limit p _ _ | .run p | .halt p | .abort p =>
    some (p, .leaseHolder)
  | .claim _ | .fault _ | .narrowTakeRead _ _ _ | .undefinedAccess _ _ => none
  | .powerOn _ | .partReset | .resetRelease _ | .portReset _ | .lineChange _ _ | .placement | .tick | .expiry _ => none
  | .serviceStart | .fetchAnswer _ | .unitReadAnswer _ | .unitWriteAnswer _ | .writebackAnswer _ => none

/-- The settings of port `p` are `r` in `t`, and those of the other ports are as in `s`. -/
structure PortBecomes (s t : State) (p : Port) (r : PortRegs) : Prop where
  port   : t.port p = r
  others : ∀ q, q ≠ p → t.port q = s.port q

/-- Source entry `n` is `e` in `t`, and the other entries are as in `s`. -/
structure SourceBecomes (s t : State) (n : SourceId) (e : SourceEntry) : Prop where
  source : t.source n = e
  others : ∀ m, m ≠ n → t.source m = s.source m

/-- The claim table holds `c` at source `n` in `t`, and elsewhere what it holds in `s`. -/
structure ClaimBecomes (s t : State) (n : SourceId) (c : Option Claim) : Prop where
  claim  : t.claimOf n = c
  others : ∀ m, m ≠ n → t.claimOf m = s.claimOf m

/-- The answer to an access at port `p` is `code` in RESULT alone: nothing else differs between `s` and `t` (R163). -/
structure OnlyResult (s t : State) (p : Port) (code : Result) : Prop where
  frame : t = { s with ports := t.ports }
  port  : PortBecomes s t p { s.port p with result := code }

/-- The records `rs` are handed to the fault queue in this order (R175, R176). -/
structure RecordsHanded (s t : State) (rs : List FaultRecord) : Prop where
  faults  : t.faults = (rs.foldl State.handRecord s).faults
  dropped : t.dropped = (rs.foldl State.handRecord s).dropped

/-- The values that a new occurrence starts with (R6, R64). -/
def newOccurrence (e : SourceEntry) : SourceEntry :=
  { e with state := .latched, fold := 0, again := false, revocations := 0, exclusion := none,
           flags := ⟨false, false, false, false⟩, unserved := false }

/-- The values of a source that enters IDLE (R13, R64). -/
def enteredIdle (e : SourceEntry) : SourceEntry :=
  { e with state := .idle, fold := 0, again := false, revocations := 0, exclusion := none,
           flags := ⟨false, false, false, false⟩, unserved := false }

/-- The values of a source that enters DISABLED, its payload queue emptied (R13, R64). -/
def enteredDisabled (e : SourceEntry) : SourceEntry :=
  { e with state := .disabled, fold := 0, again := false, revocations := 0, exclusion := none,
           flags := ⟨false, false, false, false⟩, payloads := [], unserved := false }

/-- A backlog entry made for a source with entry `e` is found unserved: it is host-bound, that is not armed or carrying an
engine flag (R53), no port of its eligible set is ONLINE, and its unserved mark is clear (R63). -/
def unservedDue (s : State) (e : SourceEntry) : Bool :=
  (e.route.descAddr.isNone || e.flags.done || e.flags.fault || e.flags.aborted) &&
    allPorts.all (fun q => !(e.route.eligibleFor q && s.online q)) && !e.unserved

/-- Source `n`, its entry `e`, joins the backlog, whose order is then `backlog`; the records `before` are handed before the
UNSERVED check of the entry, whose record names the source, its tag and its flags and has no port and no address (R63, R65,
R176). -/
structure Enters (s t : State) (n : SourceId) (e : SourceEntry) (backlog : List BacklogEntry)
    (before : List FaultRecord) : Prop where
  backlog : t.backlog = backlog
  source  : SourceBecomes s t n { e with unserved := e.unserved || unservedDue t e }
  records : RecordsHanded s t (before ++ if unservedDue t e then
    [{ src := some n, port := none, tag := some e.tag, address := none, detail := .unserved e.flags, dropped := 0 }]
    else [])

/-- Source `n` is LATCHED with entry `e` and stands at the back of its class band (R47, R63). -/
def EntersBack (s t : State) (n : SourceId) (e : SourceEntry) (before : List FaultRecord) : Prop :=
  Enters s t n e (insertBack BacklogEntry.cls ⟨n, e.route.cls⟩ s.backlog) before

/-- Source `n` is LATCHED with entry `e` and stands at the front of its class band (R47, R63). -/
def EntersFront (s t : State) (n : SourceId) (e : SourceEntry) (before : List FaultRecord) : Prop :=
  Enters s t n e (insertFront BacklogEntry.cls ⟨n, e.route.cls⟩ s.backlog) before

/-- Source `n` takes entry `e` outside the backlog, and the records `before` are all that is handed. -/
structure StaysOut (s t : State) (n : SourceId) (e : SourceEntry) (before : List FaultRecord) : Prop where
  backlog : t.backlog = s.backlog
  source  : SourceBecomes s t n e
  records : RecordsHanded s t before

/-- The line of source `n`, whose entry is `e`, stands at its active level (Table 2-2, R33). -/
def lineActive (s : State) (n : SourceId) (e : SourceEntry) : Bool :=
  !isPosted n &&
    ((e.route.detection == some .high && s.currentSample.getLsbD n.val) ||
      (e.route.detection == some .low && !s.currentSample.getLsbD n.val))

/-- The occurrence of source `n` ends, its entry standing at `e` with the claim or the service gone (R11, R21): the first
condition of R11 that holds decides. -/
structure OccurrenceEnds (s t : State) (n : SourceId) (e : SourceEntry) (before : List FaultRecord) : Prop where
  disabled : e.route.enable = false → StaysOut s t n (enteredDisabled e) before
  again    : e.route.enable = true → e.again = true → EntersBack s t n { newOccurrence e with fold := e.fold } before
  payload  : e.route.enable = true → e.again = false → isPosted n = true → e.payloads ≠ [] →
               EntersBack s t n (newOccurrence e) before
  level    : e.route.enable = true → e.again = false → lineActive s n e = true →
               EntersBack s t n (newOccurrence e) before
  idle     : e.route.enable = true → e.again = false → ¬(isPosted n = true ∧ e.payloads ≠ []) →
               lineActive s n e = false → StaysOut s t n (enteredIdle e) before

/-- The sources of `group` return to the backlog together, source `n` with entry `e n`: they stand at the front of their
bands in ascending order, ahead of the entries there, and each is checked for UNSERVED in that order (R48, R63, R65). A source
outside the group has entry `e n`. -/
structure GroupReturns (s t : State) (group : List SourceId) (e : SourceId → SourceEntry) (before : List FaultRecord) :
    Prop where
  ascending : group.Pairwise (· < ·)
  backlog   : t.backlog = group.foldr (fun n b => insertFront BacklogEntry.cls ⟨n, (e n).route.cls⟩ b) s.backlog
  sources   : ∀ n, t.source n =
                { e n with unserved := (e n).unserved || (decide (n ∈ group) && unservedDue t (e n)) }
  records   : RecordsHanded s t
                (before ++ (group.filter fun n => unservedDue t (e n)).map fun n =>
                  { src := some n, port := none, tag := some (e n).tag, address := none, detail := .unserved (e n).flags,
                    dropped := 0 })

/-- The port state after the claim of source `n` at port `p` is gone: a DRAINING port that holds no other claim goes to
OFFLINE (R103, R158). -/
def stateWithoutClaim (s : State) (n : SourceId) (p : Port) : PortState :=
  if (s.port p).state = .draining ∧ (∀ m, m ≠ n → s.holds p m = false) then .offline else (s.port p).state

/-- The service `v` in flight ends (R142): its record is discarded, its source's descriptor address becomes `addr`, the
records `before` are handed, and the occurrence is handed on with the engine flag `flag`, ENGINE_DONE, ENGINE_FAULT or
ENGINE_ABORTED, added to its flags (R10, R19), or ends when there is none. The occurrence of a disable-pending source is
discarded (R21, R151). -/
structure ServiceEnds (s t : State) (v : Service) (addr : Option Word) (before : List FaultRecord)
    (flag : Option EngineFlag) : Prop where
  frame     : t = { s with sources := t.sources, backlog := t.backlog, service := none, faults := t.faults,
                           dropped := t.dropped, attn := t.attn }
  handedOn  : ∀ f, flag = some f → (s.source v.src).route.enable = true →
                EntersBack s t v.src
                  { s.source v.src with
                    route := { (s.source v.src).route with descAddr := addr }, state := .latched, exclusion := none,
                    flags := match f with
                      | .done => { (s.source v.src).flags with done := true }
                      | .fault => { (s.source v.src).flags with fault := true }
                      | .aborted => { (s.source v.src).flags with aborted := true } } before
  discarded : flag ≠ none → (s.source v.src).route.enable = false →
                StaysOut s t v.src
                  (enteredDisabled
                    { s.source v.src with route := { (s.source v.src).route with descAddr := addr } }) before
  ended     : flag = none → OccurrenceEnds s t v.src
                { s.source v.src with route := { (s.source v.src).route with descAddr := addr } } before
  attention : AttnOk t

/-- The service `v` in flight goes on in phase `ph`, and nothing else changes but the attention outputs, which follow. -/
structure ServiceGoesOn (s t : State) (v : Service) (ph : Phase) : Prop where
  frame     : t = { s with service := some { v with phase := ph }, attn := t.attn }
  attention : AttnOk t

/-- Port `p` is a candidate for an entry `e` (R55 to R57, R59): it is eligible, ONLINE and has room, and it is not the
excluded port while another eligible port is ONLINE. -/
def isCandidate (s : State) (e : SourceEntry) (p : Port) : Prop :=
  e.route.eligibleFor p = true ∧ s.online p = true ∧ (s.queue p).length < 16 ∧
    ¬(e.exclusion = some p ∧ ∃ q, q ≠ p ∧ e.route.eligibleFor q = true ∧ s.online q = true)

/-- The bits of a written word that a command uses (Table 10-3, R185); the whole word for the staging, the divider and the
limits, and for an access that is no command; none for a read. -/
def operandBits : Instr → Word
  | .staging0 _ _ | .staging1 _ _ | .tickDivider _ _ | .limit _ _ _ | .undefinedAccess _ _ => 0xFFFFFFFF
  | .routeSelect _ _ | .disable _ _ | .resume _ _ | .unpost _ _ => 0x0000003F
  | .post _ _ _ => 0xFFFF003F
  | .complete _ _ _ | .returnClaim _ _ _ | .extend _ _ _ => 0x0000FF3F
  | .floor _ _ => 0x0000000F
  | .faultWatch _ _ => 0x00000001
  | .join _ | .leave _ | .leaseTake _ | .leaseDrop _ | .routeCommit _ | .run _ | .halt _ | .abort _ => 0
  | .claim _ | .fault _ | .narrowTakeRead _ _ _ => 0
  | .powerOn _ | .partReset | .resetRelease _ | .portReset _ | .lineChange _ _ | .placement | .tick | .expiry _ => 0
  | .serviceStart | .fetchAnswer _ | .unitReadAnswer _ | .unitWriteAnswer _ | .writebackAnswer _ => 0

end Sys2Proof.Machine
end

