-- ==== Sys2Proof/WellFormed.lean ====
section
/-! DEFINITION. Which terms of `Instr` spell a command of the table. The operand types carry every bound but one: the
access that UNDEFINED_ACCESS carries must be one that Table 10-2 leaves undefined (`Access.undefined`, R183, R184). -/

namespace Sys2Proof

/-- A term of `Instr` that spells a command of the table. -/
def Instr.wellFormed : Instr → Bool
  | .powerOn _ => true
  | .partReset => true
  | .resetRelease _ => true
  | .portReset _ => true
  | .lineChange _ _ => true
  | .placement => true
  | .tick => true
  | .expiry _ => true
  | .serviceStart => true
  | .fetchAnswer _ => true
  | .unitReadAnswer _ => true
  | .unitWriteAnswer _ => true
  | .writebackAnswer _ => true
  | .join _ => true
  | .leave _ => true
  | .leaseTake _ => true
  | .leaseDrop _ => true
  | .routeSelect _ _ => true
  | .staging0 _ _ => true
  | .staging1 _ _ => true
  | .routeCommit _ => true
  | .disable _ _ => true
  | .resume _ _ => true
  | .post _ _ _ => true
  | .unpost _ _ => true
  | .claim _ => true
  | .complete _ _ _ => true
  | .returnClaim _ _ _ => true
  | .extend _ _ _ => true
  | .floor _ _ => true
  | .faultWatch _ _ => true
  | .tickDivider _ _ => true
  | .limit _ _ _ => true
  | .run _ => true
  | .halt _ => true
  | .abort _ => true
  | .fault _ => true
  | .narrowTakeRead _ _ _ => true
  | .undefinedAccess _ a => a.undefined

end Sys2Proof
end

