-- ==== Sys2Proof/Certificates/Slice0/Obligations.lean ====
section
/-! DEFINITION. The statements about the ED64 that the provers are to prove. OBLIGATIONS.json lists them with the rules of
the spec that each one formalises. Where a statement says that a command completes, its premises speak of the state and
the operands alone. The terms `EntersBack`, `EntersFront`, `StaysOut`, `OccurrenceEnds`, `GroupReturns`, `RecordsHanded`
and the like stand in Safety.lean. -/

open Sys2Proof Sys2Proof.Machine

/-! ### The queue of commands, power-on and the invariant -/

/-- The command at the front of the queue is taken, whole, on the state with the queue's rest (R1: each happening is taken
whole, against the state that stands when it is taken). -/
def Obligations.FrontCommandIsTaken : Prop :=
  ∀ (s : State) (c : Instr) (rest : List Instr), s.pending = c :: rest → step s = exec c { s with pending := rest }

/-- With no command waiting one part clock cycle passes: the prescale count rises or the tick is taken, and every line is
sampled again (R28, R111, R112, R114, R181). That a step on an empty queue is one clock cycle is the model's choice (log
entry 3), and so is it that the cycle which ends the interval waits, the state unchanged, while an expiry is due (log entry
4). -/
def Obligations.IdleStepIsOneClockCycle : Prop :=
  ∀ s : State, s.pending = [] → ∃ t, step s = .next t ∧
    (s.resetNote ≠ none → t = s) ∧
    (s.resetNote = none → s.prescale + 1 < s.interval →
      t = { s with prescale := s.prescale + 1, previousSample := s.currentSample }) ∧
    (s.resetNote = none → s.interval ≤ s.prescale + 1 →
      (∃ n c, s.claimOf n = some c ∧ c.remaining = some 0) → t = s) ∧
    (s.resetNote = none → s.interval ≤ s.prescale + 1 →
      (∀ n c, s.claimOf n = some c → c.remaining ≠ some 0) →
      t = { s with prescale := 0, interval := s.divider, previousSample := s.currentSample, claims := t.claims } ∧
      ∀ n, t.claimOf n = (s.claimOf n).map fun c => { c with remaining := c.remaining.map (· - 1) })

/-- Power-on puts every piece of state at its power-on value, the first sample finding `levels` (R2, R4, R26, R29, R45,
R50, R69, R87, R109, R124, R154, R172, R173, R180); the reset state of the model is the power-on state with every line low
(log entry 1). The word `readWord`, the PRSTn levels, the treatment of held accesses and the staged address of an absent
descriptor are the model's (log entries 2, 5, 7 and 18). -/
def Obligations.PowerOnValues : Prop :=
  ∀ (levels : Levels) (s : State), ∃ t, exec (.powerOn levels) s = .next t ∧
    (∀ n : SourceId, t.source n =
      { route := { enable := false, cls := 0, detection := if n.val < 48 then some .rising else none, mode := .fixed,
                   eligible := 0b0001#4, limitIdx := 0, descAddr := none },
        state := .disabled, tag := 0, fold := 0, again := false, revocations := 0, exclusion := none,
        flags := ⟨false, false, false, false⟩, payloads := [], lastChosen := 3, unserved := false }) ∧
    t.backlog = [] ∧ (∀ p, t.queue p = []) ∧ (∀ n, t.claimOf n = none) ∧
    (∀ p, t.port p =
      { state := .offline, floor := 0, faultWatch := false, selected := 0,
        staging := { enable := false, cls := 0, detection := some .rising, mode := .fixed, eligible := 0b0001#4,
                     limitIdx := 0, descPresent := false, descAddr := 0 },
        result := .ok, claimData := none, faultData := none }) ∧
    t.lease = none ∧ (∀ p : Port, t.attn[p] = false) ∧ (∀ p : Port, t.readWord[p] = 0) ∧
    (∀ p : Port, t.portResets[p] = false) ∧
    t.currentSample = levels ∧ t.previousSample = levels ∧
    t.prescale = 0 ∧ t.divider = 100 ∧ t.interval = 100 ∧ t.limits = #v[0, 1000, 10000, 60000] ∧
    t.engineQueue = [] ∧ t.running = true ∧ t.service = none ∧ t.faults = [] ∧ t.dropped = 0 ∧
    t.resetNote = none ∧ t.held = [] ∧ t.pending = s.held ++ s.pending ∧
    (levels = 0 → s.held ++ s.pending = [] → t = State.reset)

/-- The part at power-on meets the invariant. -/
def Obligations.ResetMeetsInvariant : Prop := Inv State.reset

/-- Every step keeps the invariant: the collections agree with the source states, every queue keeps its room and order,
and ports, claims, lease, timers and attention outputs agree (R5, R14 to R18, R36, R37, R46, R70, R72, R88, R125, R155,
R166, R174). -/
def Obligations.InvariantKeptByStep : Prop :=
  ∀ s t : State, Inv s → step s = .next t → Inv t

/-- ATTN0 to ATTN3 follow their conditions through every step (R85, R86). -/
def Obligations.AttentionFollowsConditionKept : Prop :=
  ∀ s t : State, AttnOk s → step s = .next t → AttnOk t

/-- Every step keeps the backlog and every offer queue in class bands, the band of class 7 first (R46, R72). -/
def Obligations.BandsStayInOrder : Prop :=
  ∀ s t : State,
    s.backlog.Pairwise (fun a b => b.cls ≤ a.cls) → (∀ p, (s.queue p).Pairwise fun a b => b.cls ≤ a.cls) →
    step s = .next t →
    t.backlog.Pairwise (fun a b => b.cls ≤ a.cls) ∧ ∀ p, (t.queue p).Pairwise fun a b => b.cls ≤ a.cls

/-- In a list in class bands, the backlog or an offer queue, an insertion at the back puts the entry behind every entry of
its class and of higher classes and ahead of the lower classes; an insertion at the front puts it ahead of every entry of
its class, still behind the higher classes. The order of the others is unchanged (R46, R47, R72). -/
def Obligations.InsertionStandsInBand : Prop :=
  ∀ (α : Type) (cls : α → SourceClass) (a : α) (l : List α), l.Pairwise (fun x y => cls y ≤ cls x) →
    (∃ ahead behind, l = ahead ++ behind ∧ insertBack cls a l = ahead ++ a :: behind ∧
      (∀ x ∈ ahead, cls a ≤ cls x) ∧ ∀ x ∈ behind, cls x < cls a) ∧
    (∃ ahead behind, l = ahead ++ behind ∧ insertFront cls a l = ahead ++ a :: behind ∧
      (∀ x ∈ ahead, cls a < cls x) ∧ ∀ x ∈ behind, cls x ≤ cls a)

/-! ### Admission of accesses -/

/-- While RESET is asserted every port holds its accesses on the local bus, and while PRSTn is asserted port n does, an
undefined or narrow access as well (R161, R162, R184). That they stand in order of arrival in one list is the model's (log
entry 2). -/
def Obligations.AccessHeldWhileReset : Prop :=
  ∀ (s : State) (c : Instr) (p : Port), s.resetNote ≠ none ∨ s.portResets[p] = true → accessPort c = some p →
    c.wellFormed = true → exec c s = .next { s with held := s.held ++ [c] }

/-- A command write that Table 8-3 does not admit leaves its refusal code in RESULT and changes nothing else: OFFLINE at
an OFFLINE port, NOT_ONLINE at a DRAINING port, NOLEASE without the lease (R163, R164). -/
def Obligations.RefusedCommandChangesOnlyResult : Prop :=
  ∀ (s : State) (c : Instr) (p : Port) (row : Admission), takesAccesses s p → commandRow c = some (p, row) →
    ((s.port p).state = .offline → row ≠ .anyState → ∃ t, exec c s = .next t ∧ OnlyResult s t p .offline) ∧
    ((s.port p).state = .draining → row = .onlineOnly ∨ row = .leaseHolder →
      ∃ t, exec c s = .next t ∧ OnlyResult s t p .notOnline) ∧
    ((s.port p).state = .online → row = .leaseHolder → s.lease ≠ some p →
      ∃ t, exec c s = .next t ∧ OnlyResult s t p .nolease)

/-- A CLAIM or FAULT read that takes nothing returns its code in the word read and leaves it in RESULT, SLOTS_FULL as
FULL; nothing else changes (R91, R92, R95, R177, R191). -/
def Obligations.TakeReadRefusals : Prop :=
  ∀ (s : State) (p : Port), takesAccesses s p →
    let answered (c : Instr) (word : Word) (code : Result) : Prop := ∃ t, exec c s = .next t ∧
      t = { s with ports := t.ports, readWord := t.readWord } ∧ PortBecomes s t p { s.port p with result := code } ∧
      t.readWord[p] = word ∧ ∀ q : Port, q ≠ p → t.readWord[q] = s.readWord[q]
    ((s.port p).state = .offline → answered (.claim p) 7 .offline ∧ answered (.fault p) 7 .offline) ∧
    ((s.port p).state = .draining → answered (.claim p) 8 .notOnline) ∧
    ((s.port p).state = .online → s.queue p = [] → answered (.claim p) 1 .empty) ∧
    ((s.port p).state = .online → s.queue p ≠ [] → 8 ≤ s.claimCount p → answered (.claim p) 13 .full) ∧
    ((s.port p).state ≠ .offline → s.faults = [] → answered (.fault p) 1 .empty)

/-- A read of CLAIM or FAULT narrower than a word takes nothing and returns 0; an access that Table 10-2 does not define,
and a write narrower than a word, change nothing, and such a read returns 0; RESULT is left, in every port state (R183,
R184). -/
def Obligations.NarrowAndUndefinedAccess : Prop :=
  ∀ (s : State) (p : Port), takesAccesses s p →
    let returnsZero (c : Instr) : Prop := ∃ t, exec c s = .next t ∧ t = { s with readWord := t.readWord } ∧
      t.readWord[p] = 0 ∧ ∀ q : Port, q ≠ p → t.readWord[q] = s.readWord[q]
    (∀ (reg : TakeRegister) (enables : Fin 15), returnsZero (.narrowTakeRead p reg enables)) ∧
    (∀ a : Access, a.undefined = true → a.write = false → returnsZero (.undefinedAccess p a)) ∧
    (∀ a : Access, a.undefined = true → a.write = true → exec (.undefinedAccess p a) s = .next s)

/-! ### Port states, lease, staging and settings -/

/-- JOIN, in every port state, takes the port to ONLINE and changes no other setting, no claim, no lease and no queue; the
attention outputs follow (R156). -/
def Obligations.JoinTakesPortOnline : Prop :=
  ∀ (s : State) (p : Port), takesAccesses s p → ∃ t, exec (.join p) s = .next t ∧
    t = { s with ports := t.ports, attn := t.attn } ∧
    PortBecomes s t p { s.port p with state := .online, result := .ok } ∧ AttnOk t

/-- LEAVE at a DRAINING port changes RESULT alone. LEAVE at an ONLINE port withdraws every offer of the port, sends back
the FIXED and SHARED sources and the CONTEST sources that lost their last offer as one group, frees the lease the port
holds, and takes the port to OFFLINE, or to DRAINING when it holds claims (R157, R77, R78, R48, R167). -/
def Obligations.LeaveWithdrawsOffers : Prop :=
  ∀ (s : State) (p : Port), takesAccesses s p →
    ((s.port p).state = .draining → ∃ t, exec (.leave p) s = .next t ∧ OnlyResult s t p .ok) ∧
    ((s.port p).state = .online → ∃ t group, exec (.leave p) s = .next t ∧
      t = { s with sources := t.sources, backlog := t.backlog, offers := t.offers, ports := t.ports,
                   lease := t.lease, faults := t.faults, dropped := t.dropped, attn := t.attn } ∧
      (∀ n, n ∈ group ↔ s.hasOffer p n = true ∧
        ((s.source n).route.mode = .contest → ∀ q, q ≠ p → s.hasOffer q n = false)) ∧
      GroupReturns s t group (fun n =>
        if n ∈ group then
          { s.source n with state := .latched, flags := { (s.source n).flags with reoffer := true },
                            exclusion := if (s.source n).route.mode = .contest then (s.source n).exclusion else some p }
        else s.source n) [] ∧
      t.queue p = [] ∧ (∀ q, q ≠ p → t.queue q = s.queue q) ∧
      t.lease = (if s.lease = some p then none else s.lease) ∧
      PortBecomes s t p { s.port p with
        state := if ∀ n, s.holds p n = false then .offline else .draining, result := .ok } ∧ AttnOk t)

/-- LEASE TAKE gives a free lease to the writing port, and is answered LEASED while another port holds it; LEASE DROP
frees the lease that the writing port holds, and is answered NOLEASE otherwise. Nothing else changes (R166). -/
def Obligations.LeaseTakeAndDrop : Prop :=
  ∀ (s : State) (p : Port), takesAccesses s p → (s.port p).state = .online →
    let answered (c : Instr) (lease : Option Port) (code : Result) : Prop := ∃ t, exec c s = .next t ∧
      t = { s with lease := lease, ports := t.ports } ∧ PortBecomes s t p { s.port p with result := code }
    (s.lease = none → answered (.leaseTake p) (some p) .ok ∧ answered (.leaseDrop p) none .nolease) ∧
    (s.lease = some p → answered (.leaseTake p) (some p) .ok ∧ answered (.leaseDrop p) none .ok) ∧
    (∀ q, s.lease = some q → q ≠ p → answered (.leaseTake p) (some q) .leased ∧
      answered (.leaseDrop p) (some q) .nolease)

/-- ROUTE SELECT selects the source and copies its live record into the staging; a write of STAGING 0 sets every staged
field of Table 10-4 from bits 15:0, or is refused INVALID for detection code 6 or 7 or mode code 3; a write of STAGING 1
sets the staged address from the whole word. Nothing else changes (R169, R187, Table 10-4). -/
def Obligations.StagingIsWritten : Prop :=
  ∀ (s : State) (p : Port), takesAccesses s p → (s.port p).state = .online →
    (∀ n, let r := (s.source n).route
      ∃ t, exec (.routeSelect p n) s = .next t ∧ t = { s with ports := t.ports } ∧
      PortBecomes s t p { s.port p with
        selected := n, result := .ok,
        staging := { enable := r.enable, cls := r.cls, detection := r.detection, mode := r.mode, eligible := r.eligible,
                     limitIdx := r.limitIdx, descPresent := r.descAddr.isSome, descAddr := r.descAddr.getD 0 } }) ∧
    (∀ w : Word, (6 ≤ (w.extractLsb' 4 3).toNat ∨ (w.extractLsb' 7 2).toNat = 3) →
      ∃ t, exec (.staging0 p w) s = .next t ∧ OnlyResult s t p .invalid) ∧
    (∀ w : Word, (w.extractLsb' 4 3).toNat < 6 → (w.extractLsb' 7 2).toNat < 3 →
      ∃ t g, exec (.staging0 p w) s = .next t ∧ t = { s with ports := t.ports } ∧
      PortBecomes s t p { s.port p with staging := g, result := .ok } ∧
      g.enable = w.getLsbD 0 ∧ g.cls.val = (w.extractLsb' 1 3).toNat ∧
      g.detection = [none, some .rising, some .falling, some .both, some .high, some .low][(w.extractLsb' 4 3).toNat]! ∧
      g.mode = [HandOnMode.fixed, .shared, .contest].getD (w.extractLsb' 7 2).toNat .fixed ∧
      g.eligible = w.extractLsb' 9 4 ∧ g.limitIdx.val = (w.extractLsb' 13 2).toNat ∧ g.descPresent = w.getLsbD 15 ∧
      g.descAddr = (s.port p).staging.descAddr ∧ g.word0 = w &&& 0xFFFF#32) ∧
    (∀ w : Word, ∃ t, exec (.staging1 p w) s = .next t ∧ t = { s with ports := t.ports } ∧
      PortBecomes s t p { s.port p with staging := { (s.port p).staging with descAddr := w }, result := .ok })

/-- A floor of 0 to 8 and a fault watch setting are taken at an ONLINE port with OK, and the attention outputs follow; a
floor above 8 is refused INVALID. Both writes are refused at DRAINING and OFFLINE ports, the settings kept; PORT STATUS
shows them (R171). -/
def Obligations.FloorAndFaultWatch : Prop :=
  ∀ (s : State) (p : Port), takesAccesses s p →
    ((s.port p).state = .online →
      (∀ (v : BitVec 4) (h : v.toNat < 9), ∃ t, exec (.floor p v) s = .next t ∧
        t = { s with ports := t.ports, attn := t.attn } ∧
        PortBecomes s t p { s.port p with floor := ⟨v.toNat, h⟩, result := .ok } ∧ AttnOk t) ∧
      (∀ v : BitVec 4, 9 ≤ v.toNat → ∃ t, exec (.floor p v) s = .next t ∧ OnlyResult s t p .invalid) ∧
      (∀ on : Bool, ∃ t, exec (.faultWatch p on) s = .next t ∧ t = { s with ports := t.ports, attn := t.attn } ∧
        PortBecomes s t p { s.port p with faultWatch := on, result := .ok } ∧ AttnOk t)) ∧
    ((s.port p).state ≠ .online → ∀ (v : BitVec 4) (on : Bool),
      let code : Result := if (s.port p).state = .draining then .notOnline else .offline
      (∃ t, exec (.floor p v) s = .next t ∧ OnlyResult s t p code) ∧
      ∃ t, exec (.faultWatch p on) s = .next t ∧ OnlyResult s t p code) ∧
    ((s.portStatus p).extractLsb' 11 4).toNat = (s.port p).floor.val ∧
    (s.portStatus p).getLsbD 15 = (s.port p).faultWatch

/-- Under the lease a tick divider of 1 to 4096 and a limit value of 0 to 65535 are accepted with OK, other values refused
INVALID; running claims, the prescale count and the interval in progress are not changed (R112, R113). -/
def Obligations.DividerAndLimitWrites : Prop :=
  ∀ (s : State) (p : Port) (v : Word), takesAccesses s p → (s.port p).state = .online → s.lease = some p →
    (1 ≤ v.toNat → v.toNat ≤ 4096 → ∃ t, exec (.tickDivider p v) s = .next t ∧
      t = { s with divider := v.toNat, ports := t.ports } ∧ PortBecomes s t p { s.port p with result := .ok }) ∧
    (v.toNat = 0 ∨ 4096 < v.toNat → ∃ t, exec (.tickDivider p v) s = .next t ∧ OnlyResult s t p .invalid) ∧
    (∀ i : Fin 4, v.toNat ≤ 65535 → ∃ t, exec (.limit p i v) s = .next t ∧
      t = { s with limits := t.limits, ports := t.ports } ∧ t.limits[i].toNat = v.toNat ∧
      (∀ j : Fin 4, j ≠ i → t.limits[j] = s.limits[j]) ∧ PortBecomes s t p { s.port p with result := .ok }) ∧
    (∀ i : Fin 4, 65535 < v.toNat → ∃ t, exec (.limit p i v) s = .next t ∧ OnlyResult s t p .invalid)

/-- Under the lease RUN and HALT set the run/halt setting; ABORT with no service in flight is refused EMPTY, and otherwise
sets abort pending in the service record. Nothing else of the part changes (R129, R147). -/
def Obligations.RunHaltAbort : Prop :=
  ∀ (s : State) (p : Port), takesAccesses s p → (s.port p).state = .online → s.lease = some p →
    (∃ t, exec (.run p) s = .next t ∧ t = { s with running := true, ports := t.ports } ∧
      PortBecomes s t p { s.port p with result := .ok }) ∧
    (∃ t, exec (.halt p) s = .next t ∧ t = { s with running := false, ports := t.ports } ∧
      PortBecomes s t p { s.port p with result := .ok }) ∧
    (s.service = none → ∃ t, exec (.abort p) s = .next t ∧ OnlyResult s t p .empty) ∧
    (∀ v, s.service = some v → ∃ t, exec (.abort p) s = .next t ∧
      t = { s with service := some { v with abort := true }, ports := t.ports } ∧
      PortBecomes s t p { s.port p with result := .ok })

/-! ### Configuration of a source -/

/-- ROUTE COMMIT is refused BUSY while the selected source is neither DISABLED nor IDLE, and then INVALID when the staging
fails a check of R23; a refused commit changes RESULT alone (R23). -/
def Obligations.RouteCommitRefusals : Prop :=
  ∀ (s : State) (p : Port), takesAccesses s p → (s.port p).state = .online → s.lease = some p →
    let n := (s.port p).selected
    let g := (s.port p).staging
    ((s.source n).state ≠ .disabled → (s.source n).state ≠ .idle →
      ∃ t, exec (.routeCommit p) s = .next t ∧ OnlyResult s t p .busy) ∧
    ((s.source n).state = .disabled ∨ (s.source n).state = .idle →
      (48 ≤ n.val ∧ g.detection ≠ none) ∨ (n.val < 48 ∧ g.detection = none) ∨ (48 ≤ n.val ∧ g.descPresent = true) ∨
        (g.descPresent = true ∧ g.descAddr.toNat % 16 ≠ 0) ∨ g.eligible = 0 ∨
        (g.mode = .fixed ∧ ¬∃ q : Port, g.eligible = BitVec.twoPow 4 q.val) →
      ∃ t, exec (.routeCommit p) s = .next t ∧ OnlyResult s t p .invalid)

/-- ROUTE COMMIT that passes the checks of R23 replaces the route record: with enable off the source is DISABLED; with
enable on a DISABLED source goes to IDLE and an IDLE one stays, and a level-detected source whose line is active latches
at once, at the back of its band (R24, R6, R44). -/
def Obligations.RouteCommitApplies : Prop :=
  ∀ (s : State) (p : Port), takesAccesses s p → (s.port p).state = .online → s.lease = some p →
    let n := (s.port p).selected
    let g := (s.port p).staging
    ((s.source n).state = .disabled ∨ (s.source n).state = .idle) →
    (n.val < 48 ↔ g.detection ≠ none) → (g.descPresent = true → n.val < 48 ∧ g.descAddr.toNat % 16 = 0) →
    g.eligible ≠ 0 → (g.mode = .fixed → ∃ q : Port, g.eligible = BitVec.twoPow 4 q.val) →
    let e : SourceEntry := { s.source n with
      route := { enable := g.enable, cls := g.cls, detection := g.detection, mode := g.mode, eligible := g.eligible,
                 limitIdx := g.limitIdx, descAddr := if g.descPresent then some g.descAddr else none } }
    let e' : SourceEntry := if (s.source n).state = .disabled then { enteredIdle e with payloads := [] } else e
    ∃ t, exec (.routeCommit p) s = .next t ∧
      t = { s with sources := t.sources, backlog := t.backlog, faults := t.faults, dropped := t.dropped,
                   ports := t.ports, attn := t.attn } ∧
      (g.enable = false → StaysOut s t n (enteredDisabled e) []) ∧
      (g.enable = true → lineActive s n e = false → StaysOut s t n e' []) ∧
      (g.enable = true → lineActive s n e = true → EntersBack s t n (newOccurrence e') []) ∧
      PortBecomes s t p { s.port p with result := .ok } ∧ AttnOk t

/-- DISABLE sets the enable field off in every state. A CLAIMED or ENGINE_ACTIVE source keeps its claim or service, its
queued payloads, fold count and again flag cleared; in every other state the source leaves its collection for DISABLED,
its occurrence discarded, with no fault record (R20, Table 1-7, R76, R126). -/
def Obligations.DisableByState : Prop :=
  ∀ (s : State) (p : Port) (n : SourceId), takesAccesses s p → (s.port p).state = .online → s.lease = some p →
    let e : SourceEntry := { s.source n with route := { (s.source n).route with enable := false } }
    let st := (s.source n).state
    ∃ t, exec (.disable p n) s = .next t ∧
      t = { s with sources := t.sources, backlog := t.backlog, offers := t.offers, engineQueue := t.engineQueue,
                   ports := t.ports, attn := t.attn } ∧
      SourceBecomes s t n
        (if st = .claimed ∨ st = .engineActive then { e with payloads := [], fold := 0, again := false }
         else if st = .disabled then e else enteredDisabled e) ∧
      t.backlog = (if st = .latched then s.backlog.filter fun b => b.src ≠ n else s.backlog) ∧
      (∀ q, t.queue q = if st = .offered then (s.queue q).filter (fun o => o.src ≠ n) else s.queue q) ∧
      t.engineQueue = (if st = .engineWait then s.engineQueue.filter fun m => m ≠ n else s.engineQueue) ∧
      PortBecomes s t p { s.port p with result := .ok } ∧ AttnOk t

/-- RESUME takes a SUSPENDED source to the front of its band with revocation count 0, no exclusion and REOFFER added; in
any other state it is refused INVALID (R25). -/
def Obligations.ResumeReenters : Prop :=
  ∀ (s : State) (p : Port) (n : SourceId), takesAccesses s p → (s.port p).state = .online →
    let e := s.source n
    (e.state ≠ .suspended → ∃ t, exec (.resume p n) s = .next t ∧ OnlyResult s t p .invalid) ∧
    (e.state = .suspended → ∃ t, exec (.resume p n) s = .next t ∧
      t = { s with sources := t.sources, backlog := t.backlog, faults := t.faults, dropped := t.dropped,
                   ports := t.ports, attn := t.attn } ∧
      EntersFront s t n { e with state := .latched, revocations := 0, exclusion := none,
                                 flags := { e.flags with reoffer := true } } [] ∧
      PortBecomes s t p { s.port p with result := .ok } ∧ AttnOk t)

/-! ### Posted sources -/

/-- An admitted POST is judged in the order of Table 2-5: INVALID for a line source, DISABLED for an enable that is off,
FULL when queue and claim hold four payloads; otherwise the payload is appended, and an IDLE source latches (R38). -/
def Obligations.PostIsJudgedInOrder : Prop :=
  ∀ (s : State) (p : Port) (n : SourceId) (d : Payload), takesAccesses s p → (s.port p).state = .online →
    let e := s.source n
    let total := e.payloads.length + if ∃ c, s.claimOf n = some c ∧ c.payload ≠ none then 1 else 0
    (n.val < 48 → ∃ t, exec (.post p n d) s = .next t ∧ OnlyResult s t p .invalid) ∧
    (48 ≤ n.val → e.route.enable = false → ∃ t, exec (.post p n d) s = .next t ∧ OnlyResult s t p .disabled) ∧
    (48 ≤ n.val → e.route.enable = true → 4 ≤ total → ∃ t, exec (.post p n d) s = .next t ∧ OnlyResult s t p .full) ∧
    (48 ≤ n.val → e.route.enable = true → total < 4 → ∃ t, exec (.post p n d) s = .next t ∧
      t = { s with sources := t.sources, backlog := t.backlog, faults := t.faults, dropped := t.dropped,
                   ports := t.ports, attn := t.attn } ∧
      (e.state = .idle → EntersBack s t n { newOccurrence e with payloads := e.payloads ++ [d] } []) ∧
      (e.state ≠ .idle → StaysOut s t n { e with payloads := e.payloads ++ [d] } []) ∧
      PortBecomes s t p { s.port p with result := .ok } ∧ AttnOk t)

/-- UNPOST of a line source is refused INVALID, of a source whose enable is off DISABLED. On a LATCHED or OFFERED source
it removes the backlog entry or every offer, discards the head payload, and the next payload latches at the back of the
band, or the source goes to IDLE (R40). -/
def Obligations.UnpostRemovesCurrentOccurrence : Prop :=
  ∀ (s : State) (p : Port) (n : SourceId), takesAccesses s p → (s.port p).state = .online →
    let e := s.source n
    (n.val < 48 → ∃ t, exec (.unpost p n) s = .next t ∧ OnlyResult s t p .invalid) ∧
    (48 ≤ n.val → e.route.enable = false → ∃ t, exec (.unpost p n) s = .next t ∧ OnlyResult s t p .disabled) ∧
    (48 ≤ n.val → e.route.enable = true → (e.state = .latched ∨ e.state = .offered) →
      let left : List BacklogEntry :=
        if e.state = .latched then s.backlog.filter fun b => b.src ≠ n else s.backlog
      ∃ t, exec (.unpost p n) s = .next t ∧
      t = { s with sources := t.sources, backlog := t.backlog, offers := t.offers, faults := t.faults,
                   dropped := t.dropped, ports := t.ports, attn := t.attn } ∧
      (∀ q, t.queue q = if e.state = .offered then (s.queue q).filter (fun o => o.src ≠ n) else s.queue q) ∧
      (e.payloads.tail = [] → StaysOut { s with backlog := left } t n { enteredIdle e with payloads := [] } []) ∧
      (e.payloads.tail ≠ [] →
        EntersBack { s with backlog := left } t n { newOccurrence e with payloads := e.payloads.tail } []) ∧
      PortBecomes s t p { s.port p with result := .ok } ∧ AttnOk t)

/-- UNPOST on a CLAIMED source discards the head of its queue, and on a SUSPENDED source the second payload; the rest of
the source, its claim and its timer are unchanged. With no such payload it is refused EMPTY (R41). On an IDLE source,
whose queue is empty, it is refused EMPTY (R42). -/
def Obligations.UnpostBehindCurrentOccurrence : Prop :=
  ∀ (s : State) (p : Port) (n : SourceId), takesAccesses s p → (s.port p).state = .online →
    (s.source n).route.enable = true → 48 ≤ n.val → EntryOk s n (s.source n) →
    let e := s.source n
    let discards (rest : List Payload) : Prop := ∃ t, exec (.unpost p n) s = .next t ∧
      t = { s with sources := t.sources, ports := t.ports } ∧ SourceBecomes s t n { e with payloads := rest } ∧
      PortBecomes s t p { s.port p with result := .ok }
    let refused : Prop := ∃ t, exec (.unpost p n) s = .next t ∧ OnlyResult s t p .empty
    (∀ d rest, e.state = .claimed → e.payloads = d :: rest → discards rest) ∧
    (e.state = .claimed → e.payloads = [] → refused) ∧
    (∀ d d' rest, e.state = .suspended → e.payloads = d :: d' :: rest → discards (d :: rest)) ∧
    (∀ d, e.state = .suspended → e.payloads = [d] → refused) ∧
    (e.state = .idle → e.payloads = [] ∧ refused)

/-! ### Claims -/

/-- A CLAIM read at an ONLINE port with an offer and fewer than 8 claims turns the head offer into a claim: the offer and
its siblings leave their queues, the claim carries the fields of Table 5-2 with its timer loaded from the selected limit
value, the source goes to CLAIMED with its fold count delivered and the head payload of a posted source moved into the
claim, the last claim data is replaced, and the claim word is returned (R92, R93, R94, R96, R75, R8). -/
def Obligations.ClaimTakesHeadOffer : Prop :=
  ∀ (s : State) (p : Port) (o : Offer) (rest : List Offer), takesAccesses s p → (s.port p).state = .online →
    s.queue p = o :: rest → s.claimCount p < 8 →
    let e := s.source o.src
    let limit := s.limits[e.route.limitIdx]
    let payload : Option Payload := if 48 ≤ o.src.val then e.payloads.head? else none
    let c : Claim := { port := p, tag := o.tag, cls := o.cls, flags := o.flags, payload := payload, fold := e.fold,
                       remaining := if limit = 0 then none else some limit, renewals := 0 }
    ∃ t, exec (.claim p) s = .next t ∧
      t = { s with sources := t.sources, offers := t.offers, claims := t.claims, ports := t.ports,
                   readWord := t.readWord, attn := t.attn } ∧
      t.queue p = rest ∧ (∀ q, q ≠ p → t.queue q = (s.queue q).filter fun x => x.src ≠ o.src) ∧
      ClaimBecomes s t o.src (some c) ∧
      SourceBecomes s t o.src { e with state := .claimed, fold := 0,
                                       payloads := if 48 ≤ o.src.val then e.payloads.tail else e.payloads } ∧
      PortBecomes s t p { s.port p with claimData := some ⟨o.src, payload, e.fold⟩, result := .ok } ∧
      t.readWord[p] = offerWord 0 o.src o.cls payload.isSome o.flags o.tag 0 ∧
      (∀ q : Port, q ≠ p → t.readWord[q] = s.readWord[q]) ∧ AttnOk t

/-- A matching COMPLETE removes the claim and ends the occurrence, the source's next state decided by R11; a DRAINING port
that held no other claim goes to OFFLINE (R99, R100, R11, R21, R103, R158). -/
def Obligations.CompleteEndsOccurrence : Prop :=
  ∀ (s : State) (p : Port) (n : SourceId) (c : Claim), takesAccesses s p → (s.port p).state ≠ .offline →
    s.claimOf n = some c → c.port = p → ∃ t, exec (.complete p n c.tag) s = .next t ∧
      t = { s with sources := t.sources, backlog := t.backlog, claims := t.claims, ports := t.ports,
                   faults := t.faults, dropped := t.dropped, attn := t.attn } ∧
      ClaimBecomes s t n none ∧ OccurrenceEnds s t n (s.source n) [] ∧
      PortBecomes s t p { s.port p with state := stateWithoutClaim s n p, result := .ok } ∧ AttnOk t

/-- A matching RETURN removes the claim and sends the source to the front of its band with the returning port as
exclusion, payload and fold count given back and REOFFER added; a disable-pending source goes to DISABLED (R99, R101, R9,
R21, R103). -/
def Obligations.ReturnGivesOccurrenceBack : Prop :=
  ∀ (s : State) (p : Port) (n : SourceId) (c : Claim), takesAccesses s p → (s.port p).state ≠ .offline →
    s.claimOf n = some c → c.port = p →
    let e := s.source n
    ∃ t, exec (.returnClaim p n c.tag) s = .next t ∧
      t = { s with sources := t.sources, backlog := t.backlog, claims := t.claims, ports := t.ports,
                   faults := t.faults, dropped := t.dropped, attn := t.attn } ∧
      ClaimBecomes s t n none ∧
      (e.route.enable = true → ∃ fold : Count8, fold.val = min (e.fold.val + c.fold.val) 255 ∧
        EntersFront s t n { e with state := .latched, exclusion := some p, fold := fold,
                                   payloads := c.payload.toList ++ e.payloads,
                                   flags := { e.flags with reoffer := true } } []) ∧
      (e.route.enable = false → StaysOut s t n (enteredDisabled e) []) ∧
      PortBecomes s t p { s.port p with state := stateWithoutClaim s n p, result := .ok } ∧ AttnOk t

/-- A matching EXTEND of an untimed claim changes nothing; of a claim with three renewals it is refused LIMIT; otherwise
the timer restarts from the selected limit value, absent when that is 0, and the renewals rise by 1 (R102). -/
def Obligations.ExtendRestartsTimer : Prop :=
  ∀ (s : State) (p : Port) (n : SourceId) (c : Claim), takesAccesses s p → (s.port p).state ≠ .offline →
    s.claimOf n = some c → c.port = p →
    let limit := s.limits[(s.source n).route.limitIdx]
    (c.remaining = none → ∃ t, exec (.extend p n c.tag) s = .next t ∧ OnlyResult s t p .ok) ∧
    (c.remaining ≠ none → c.renewals = 3 → ∃ t, exec (.extend p n c.tag) s = .next t ∧ OnlyResult s t p .limit) ∧
    (c.remaining ≠ none → c.renewals ≠ 3 → ∃ t k, exec (.extend p n c.tag) s = .next t ∧
      t = { s with claims := t.claims, ports := t.ports } ∧ k.val = c.renewals.val + 1 ∧
      ClaimBecomes s t n (some { c with remaining := if limit = 0 then none else some limit, renewals := k }) ∧
      PortBecomes s t p { s.port p with result := .ok })

/-- COMPLETE, RETURN and EXTEND naming a source of which the writing port holds no claim are answered STALE, and with
another tag than the claim's MISMATCH; they change RESULT alone (R99, R108). -/
def Obligations.UnmatchedCommandsChangeNothing : Prop :=
  ∀ (s : State) (p : Port) (n : SourceId) (tag : Tag) (cmd : Instr), takesAccesses s p →
    (s.port p).state ≠ .offline → cmd ∈ [Instr.complete p n tag, .returnClaim p n tag, .extend p n tag] →
    ((∀ c, s.claimOf n = some c → c.port ≠ p) → ∃ t, exec cmd s = .next t ∧ OnlyResult s t p .stale) ∧
    (∀ c, s.claimOf n = some c → c.port = p → c.tag ≠ tag → ∃ t, exec cmd s = .next t ∧ OnlyResult s t p .mismatch)

/-! ### Claim timers -/

/-- A tick lowers the remaining ticks of every timed claim by 1, returns the prescale count to 0 and brings the accepted
divider into force (R111, R112, R114); no tick is taken while RESET is asserted (R111). The model's choices are that TICK
passes the rest of the interval from any prescale count, its cycles sampling every line without change (R28, R181, log entry
3), and that TICK before the expiries due leaves the state unchanged (log entry 4). -/
def Obligations.TickLowersTimers : Prop :=
  ∀ s : State,
    (s.resetNote = none → (∀ n c, s.claimOf n = some c → c.remaining ≠ some 0) → ∃ t, exec .tick s = .next t ∧
      t = { s with prescale := 0, interval := s.divider, previousSample := s.currentSample, claims := t.claims } ∧
      ∀ n, t.claimOf n = (s.claimOf n).map fun c => { c with remaining := c.remaining.map (· - 1) }) ∧
    (s.resetNote ≠ none ∨ (∃ n c, s.claimOf n = some c ∧ c.remaining = some 0) → exec .tick s = .next s)

/-- An expiry that is due revokes its claim: payload and fold count are given back, the revocation count rises by 1 and
CLAIM_EXPIRED is handed; below the third the source goes to the front of its band with the holder as exclusion, at the
third to SUSPENDED with an ABANDONED record, and when disable-pending to DISABLED (R117, R118, R119, R120, R114, R9, R12,
R21, R103). That an EXPIRY of a claim that is not due leaves the state unchanged is the model's choice (log entry 4). -/
def Obligations.ExpiryRevokesClaim : Prop :=
  ∀ (s : State) (n : SourceId),
    ((∀ c, s.claimOf n = some c → c.remaining ≠ some 0) → exec (.expiry n) s = .next s) ∧
    (∀ c, s.claimOf n = some c → c.remaining = some 0 → (s.source n).revocations.val < 3 →
      ∃ (t : State) (e : SourceEntry), exec (.expiry n) s = .next t ∧
      t = { s with sources := t.sources, backlog := t.backlog, claims := t.claims, ports := t.ports,
                   faults := t.faults, dropped := t.dropped, attn := t.attn } ∧
      e = { s.source n with payloads := c.payload.toList ++ (s.source n).payloads, fold := e.fold,
                            revocations := e.revocations } ∧
      e.fold.val = min ((s.source n).fold.val + c.fold.val) 255 ∧
      e.revocations.val = (s.source n).revocations.val + 1 ∧
      let expired : FaultRecord :=
        { src := some n, port := some c.port, tag := some c.tag, address := none,
          detail := .claimExpired e.revocations (!e.route.enable), dropped := 0 }
      let abandoned : FaultRecord :=
        { src := some n, port := some c.port, tag := some c.tag, address := none, detail := .abandoned e.fold,
          dropped := 0 }
      ClaimBecomes s t n none ∧
      (e.route.enable = false → StaysOut s t n (enteredDisabled e) [expired]) ∧
      (e.route.enable = true → e.revocations.val = 3 →
        StaysOut s t n { e with state := .suspended } [expired, abandoned]) ∧
      (e.route.enable = true → e.revocations.val < 3 →
        EntersFront s t n { e with state := .latched, exclusion := some c.port,
                                   flags := { e.flags with reoffer := true } } [expired]) ∧
      PortBecomes s t c.port { s.port c.port with state := stateWithoutClaim s n c.port } ∧ AttnOk t)

/-! ### Fault queue -/

/-- A handed record is stored at the back with the dropped count as it stands, which then becomes 0, while fewer than 16
records are held; with 16 held it is dropped and the count rises by 1, staying at 255 (R175). -/
def Obligations.RecordIsStoredOrDropped : Prop :=
  ∀ (s : State) (r : FaultRecord),
    s.handRecord r = { s with faults := (s.handRecord r).faults, dropped := (s.handRecord r).dropped } ∧
    (s.faults.length < 16 → (s.handRecord r).faults = s.faults ++ [{ r with dropped := s.dropped }] ∧
      (s.handRecord r).dropped = 0) ∧
    (16 ≤ s.faults.length → (s.handRecord r).faults = s.faults ∧
      (s.handRecord r).dropped.val = min (s.dropped.val + 1) 255)

/-- A FAULT read at an ONLINE or DRAINING port removes the head record: its first word is returned, its second word
becomes the port's last fault data, RESULT records OK, and the attention outputs follow (R177, R179). -/
def Obligations.FaultReadPopsHead : Prop :=
  ∀ (s : State) (p : Port) (r : FaultRecord) (rest : List FaultRecord), takesAccesses s p →
    (s.port p).state ≠ .offline → s.faults = r :: rest → ∃ t, exec (.fault p) s = .next t ∧
      t = { s with faults := rest, ports := t.ports, readWord := t.readWord, attn := t.attn } ∧
      PortBecomes s t p { s.port p with faultData := some r.secondWord, result := .ok } ∧
      t.readWord[p] = r.firstWord ∧ (∀ q : Port, q ≠ p → t.readWord[q] = s.readWord[q]) ∧ AttnOk t

/-! ### Resets -/

/-- The assertion of RESET: every source goes to IDLE or DISABLED by its enable, its record and tag kept; the collections
are emptied, the service cut, every port at its default settings, the timer settings and the engine at their power-on
values, the attention outputs deasserted. The fault queue, the samples, the PRSTn levels and the accesses held are kept;
the discarded claims and the cut service are kept for the PART_RESET record (R27, R50, R58, R64, R87, R109, R124, R153,
R154, R172, R173, R180; the staged address of the default settings: log entry 18). -/
def Obligations.PartResetAsserted : Prop :=
  ∀ s : State, s.resetNote = none → ∃ t, exec .partReset s = .next t ∧
    t = { s with sources := t.sources, backlog := [], offers := t.offers, claims := t.claims, ports := t.ports,
                 lease := none, attn := t.attn, prescale := 0, divider := 100, interval := 100,
                 limits := #v[0, 1000, 10000, 60000], engineQueue := [], running := true, service := none,
                 resetNote := some
                   { cut := s.service.map fun v => ⟨v.src, (s.source v.src).tag, v.descAddr⟩,
                     claims := (List.finRange 64).countP fun n => (s.claimOf n).isSome } } ∧
    (∀ n, t.source n = { s.source n with
      state := if (s.source n).route.enable then .idle else .disabled, fold := 0, again := false, revocations := 0,
      exclusion := none, flags := ⟨false, false, false, false⟩, payloads := [], lastChosen := 3, unserved := false }) ∧
    (∀ p, t.queue p = []) ∧ (∀ n, t.claimOf n = none) ∧ (∀ p, t.port p = .default) ∧ ∀ p : Port, t.attn[p] = false

/-- The release of RESET: the first sample of every line makes no change, the prescale count starts from 0, the PART_RESET
record is handed, and the enabled level-detected sources at their active level latch in ascending order, each at the back
of its band, the unarmed ones with an UNSERVED record (R27, R29, R33, R50, R111, R180). The held accesses of the
ports whose PRSTn is not asserted are let through (R161, R162); that they come in order of arrival ahead of the queue is
the model's (log entry 2). -/
def Obligations.ResetReleaseLatchesLevels : Prop :=
  ∀ (s : State) (levels : Levels) (note : ResetNote), s.resetNote = some note → s.backlog = [] →
    (∀ p, s.online p = false) →
    (∀ n, (s.source n).state = (if (s.source n).route.enable then .idle else .disabled) ∧
      (s.source n).unserved = false) →
    let latching (n : SourceId) : Bool :=
      (s.source n).route.enable && lineActive { s with currentSample := levels } n (s.source n)
    let armed (n : SourceId) : Bool := (s.source n).route.descAddr.isSome
    let waits (c : Instr) : Bool := (accessPort c).any fun p => s.portResets[p]
    ∃ t, exec (.resetRelease levels) s = .next t ∧
      t = { s with currentSample := levels, previousSample := levels, prescale := 0, resetNote := none,
                   held := s.held.filter waits, pending := s.held.filter (fun c => !waits c) ++ s.pending,
                   sources := t.sources, backlog := t.backlog, faults := t.faults,
                   dropped := t.dropped, attn := t.attn } ∧
      (∀ n, t.source n = if latching n then { newOccurrence (s.source n) with unserved := !armed n } else s.source n) ∧
      t.backlog = ((List.finRange 64).filter latching).foldl
        (fun b n => insertBack BacklogEntry.cls ⟨n, (s.source n).route.cls⟩ b) [] ∧
      RecordsHanded s t
        ({ src := note.cut.map CutService.src, port := none, tag := note.cut.map CutService.tag,
           address := note.cut.map CutService.descAddr, detail := .partReset note.claims, dropped := 0 } ::
          ((List.finRange 64).filter fun n => latching n && !armed n).map fun n =>
            { src := some n, port := none, tag := some (s.source n).tag, address := none,
              detail := .unserved ⟨false, false, false, false⟩, dropped := 0 }) ∧ AttnOk t

/-- The reset of port `p`: its claims are revoked with their revocation counts unchanged and its offers withdrawn, the
sources that return joining the front of their bands as one group; the lease it holds is freed, its settings take their
default values and it is OFFLINE; one PORT_RESET record counts the claims revoked, ahead of the UNSERVED records, and
the port takes no access from then on. PRSTn asserted while RESET is asserted has no effect beyond the part reset but its
level, and holding it asserted repeats nothing (R160, R161, R110, R77, R48, R9, R21, R123, R172; the staged address of the
default settings: log entry 18). -/
def Obligations.PortResetRevokesAndWithdraws : Prop :=
  ∀ (s : State) (p : Port),
    (s.portResets[p] = true → exec (.portReset ⟨p, true⟩) s = .next s) ∧
    (s.portResets[p] = false → s.resetNote ≠ none → ∃ t, exec (.portReset ⟨p, true⟩) s = .next t ∧
      t = { s with portResets := t.portResets } ∧ ∀ q : Port, t.portResets[q] = (decide (q = p) || s.portResets[q])) ∧
    (takesAccesses s p → (∀ n c q, s.claimOf n = some c → s.hasOffer q n = false) →
      let returned (n : SourceId) : SourceEntry :=
        match s.claimOf n with
        | some c => { s.source n with
            state := .latched, exclusion := some p, flags := { (s.source n).flags with reoffer := true },
            payloads := c.payload.toList ++ (s.source n).payloads, fold := satAdd (s.source n).fold c.fold }
        | none => { s.source n with
            state := .latched, flags := { (s.source n).flags with reoffer := true },
            exclusion := if (s.source n).route.mode = .contest then (s.source n).exclusion else some p }
      let revoked := (List.finRange 64).countP fun n => s.holds p n
      ∃ t group, exec (.portReset ⟨p, true⟩) s = .next t ∧
        t = { s with sources := t.sources, backlog := t.backlog, offers := t.offers, claims := t.claims,
                     ports := t.ports, lease := t.lease, faults := t.faults, dropped := t.dropped, attn := t.attn,
                     portResets := t.portResets } ∧
        (∀ q : Port, t.portResets[q] = (decide (q = p) || s.portResets[q])) ∧
        (∀ n, n ∈ group ↔ (s.holds p n = true ∧ (s.source n).route.enable = true) ∨
          (s.hasOffer p n = true ∧ ((s.source n).route.mode = .contest → ∀ q, q ≠ p → s.hasOffer q n = false))) ∧
        GroupReturns s t group (fun n =>
          if n ∈ group then returned n else if s.holds p n then enteredDisabled (s.source n) else s.source n)
          (if revoked = 0 then [] else
            [{ src := none, port := some p, tag := none, address := none, detail := .portReset revoked, dropped := 0 }]) ∧
        (∀ n, t.claimOf n = if s.holds p n then none else s.claimOf n) ∧
        t.queue p = [] ∧ (∀ q, q ≠ p → t.queue q = s.queue q) ∧
        t.lease = (if s.lease = some p then none else s.lease) ∧ PortBecomes s t p .default ∧ AttnOk t)

/-- The release of PRSTn does nothing but let the held accesses of the port through, in order of arrival; while RESET is
asserted it lets none through (R161, R162). That the row PORT_RESET carries the release, and that the accesses come ahead
of the queue, are the model's (log entries 2 and 5). -/
def Obligations.PortResetReleaseLetsAccessesThrough : Prop :=
  ∀ (s : State) (p : Port), (∀ c ∈ s.held, ∃ q, accessPort c = some q ∧ ¬takesAccesses s q) →
    ∃ t, exec (.portReset ⟨p, false⟩) s = .next t ∧
    (∀ q : Port, t.portResets[q] = (decide (q ≠ p) && s.portResets[q])) ∧
    (s.resetNote ≠ none → t = { s with portResets := t.portResets }) ∧
    (s.resetNote = none → t = { s with
      portResets := t.portResets, held := s.held.filter fun c => accessPort c ≠ some p,
      pending := (s.held.filter fun c => accessPort c = some p) ++ s.pending })

/-! ### Event lines -/

/-- A qualifying edge on an enabled source: it latches an IDLE source, adds to the fold count in LATCHED, OFFERED,
ENGINE_WAIT and SUSPENDED, and in CLAIMED and ENGINE_ACTIVE sets the again flag or, with the flag set, adds to the fold
count, saturating at 255 (R28, R30, R31, R14, R15, Tables 2-2 and 2-3). The new occurrence starts LATCHED with fold count 0,
again clear, revocation count 0, no exclusion, no flags and the unserved mark clear (R6, R64). That the samples of the other
lines stay as they are is the model's choice (log entry 15). -/
def Obligations.QualifyingEdgeByState : Prop :=
  ∀ (s : State) (l : LineId) (n : SourceId) (level : Bool) (d : Detection), n.val = l.val → s.resetNote = none →
    s.currentSample.getLsbD l.val ≠ level → (s.source n).route.enable = true → (s.source n).route.detection = some d →
    ((d = .rising ∧ level = true) ∨ (d = .falling ∧ level = false) ∨ d = .both) →
    let e := s.source n
    ∃ t, exec (.lineChange l level) s = .next t ∧
      t = { s with currentSample := t.currentSample, previousSample := t.previousSample, sources := t.sources,
                   backlog := t.backlog, faults := t.faults, dropped := t.dropped, attn := t.attn } ∧
      (∀ k : LineId, t.currentSample.getLsbD k.val = if k = l then level else s.currentSample.getLsbD k.val) ∧
      (∀ k : LineId, t.previousSample.getLsbD k.val =
        if k = l then s.currentSample.getLsbD k.val else s.previousSample.getLsbD k.val) ∧
      (e.state = .idle → EntersBack s t n
        { e with state := .latched, fold := 0, again := false, revocations := 0, exclusion := none,
                 flags := ⟨false, false, false, false⟩, unserved := false } []) ∧
      ((e.state = .latched ∨ e.state = .offered ∨ e.state = .engineWait ∨ e.state = .suspended) ∨
        (e.state = .claimed ∨ e.state = .engineActive) ∧ e.again = true →
        ∃ fold : Count8, fold.val = min (e.fold.val + 1) 255 ∧ StaysOut s t n { e with fold := fold } []) ∧
      ((e.state = .claimed ∨ e.state = .engineActive) ∧ e.again = false →
        StaysOut s t n { e with again := true } []) ∧ AttnOk t

/-- An activation of an enabled level-detected source latches it when it is IDLE and has no effect in any other state. A
change that the detection setting does not name, a change away from the active level and every change of a source whose
enable is off are recorded in the samples alone; so is a sample equal to the one before. While RESET is asserted no sample
is taken (R28, R29, R30, R33, Table 2-2). That a LINE_CHANGE samples its one line and leaves the samples of the others as
they are is the model's choice (log entry 15). -/
def Obligations.LevelsAndOtherChanges : Prop :=
  ∀ (s : State) (l : LineId) (n : SourceId) (level : Bool), n.val = l.val →
    let e := s.source n
    let high := e.route.detection = some .high
    let low := e.route.detection = some .low
    let sampled (t : State) : Prop :=
      (∀ k : LineId, t.currentSample.getLsbD k.val = if k = l then level else s.currentSample.getLsbD k.val) ∧
      ∀ k : LineId, t.previousSample.getLsbD k.val =
        if k = l then s.currentSample.getLsbD k.val else s.previousSample.getLsbD k.val
    let samplesOnly : Prop := ∃ t, exec (.lineChange l level) s = .next t ∧ sampled t ∧
      t = { s with currentSample := t.currentSample, previousSample := t.previousSample, attn := t.attn } ∧
      (AttnOk s → AttnOk t)
    let active := (high ∧ level = true) ∨ (low ∧ level = false)
    let edge := (e.route.detection = some .rising ∧ level = true) ∨
      (e.route.detection = some .falling ∧ level = false) ∨ e.route.detection = some .both
    (s.resetNote ≠ none → exec (.lineChange l level) s = .next s) ∧
    (s.resetNote = none → s.currentSample.getLsbD l.val = level → samplesOnly) ∧
    (s.resetNote = none → e.route.enable = false → samplesOnly) ∧
    (s.resetNote = none → ¬active → ¬edge → samplesOnly) ∧
    (s.resetNote = none → active → e.state ≠ .idle → samplesOnly) ∧
    (s.resetNote = none → s.currentSample.getLsbD l.val ≠ level → e.route.enable = true → active → e.state = .idle →
      ∃ t, exec (.lineChange l level) s = .next t ∧ sampled t ∧
        t = { s with currentSample := t.currentSample, previousSample := t.previousSample, sources := t.sources,
                     backlog := t.backlog, faults := t.faults, dropped := t.dropped, attn := t.attn } ∧
        EntersBack s t n (newOccurrence e) [] ∧ AttnOk t)

/-! ### Dispatch -/

/-- The first backlog entry with a place, when it is engine-bound, leaves the backlog for the back of the engine queue; its
source goes to ENGINE_WAIT with no exclusion, tag and flags unchanged (R51, R53, R54). -/
def Obligations.EnginePlacement : Prop :=
  ∀ (s : State) (ahead behind : List BacklogEntry) (b : BacklogEntry), s.backlog = ahead ++ b :: behind →
    (∀ x ∈ ahead, s.placeOf x.src = none) → (∀ x ∈ ahead ++ behind, x.src ≠ b.src) →
    (s.source b.src).engineBound = true → s.engineQueue.length < 8 →
    ∃ t, exec .placement s = .next t ∧
      t = { s with sources := t.sources, backlog := ahead ++ behind, engineQueue := s.engineQueue ++ [b.src] } ∧
      SourceBecomes s t b.src { s.source b.src with state := .engineWait, exclusion := none }

/-- The first backlog entry with a place, when it is host-bound, leaves the backlog for the offer queues of its ports: the
tag advances once, the exclusion is absent, each chosen queue takes one offer with the class, the new tag, the flags and
the contest mark, ahead of its band when it carries REOFFER and behind it when not; a SHARED placement sets the
last-chosen pointer (R51, R58, R59, R61, R71, R72). -/
def Obligations.HostPlacement : Prop :=
  ∀ (s : State) (ahead behind : List BacklogEntry) (b : BacklogEntry), s.backlog = ahead ++ b :: behind →
    (∀ x ∈ ahead, s.placeOf x.src = none) → (∀ x ∈ ahead ++ behind, x.src ≠ b.src) →
    (s.source b.src).engineBound = false → s.hostPlace (s.source b.src) ≠ [] →
    let e := s.source b.src
    let ports := s.hostPlace e
    let o : Offer := { src := b.src, cls := b.cls, tag := e.tag + 1, flags := e.flags,
                       contest := decide (e.route.mode = .contest ∧ 2 ≤ ports.length) }
    ∃ t, exec .placement s = .next t ∧
      t = { s with sources := t.sources, backlog := ahead ++ behind, offers := t.offers, attn := t.attn } ∧
      SourceBecomes s t b.src { e with
        state := .offered, tag := e.tag + 1, exclusion := none,
        lastChosen := if e.route.mode = .shared then ports.headD e.lastChosen else e.lastChosen } ∧
      (∀ q, t.queue q = if q ∈ ports then
        (if e.flags.reoffer then insertFront Offer.cls o (s.queue q) else insertBack Offer.cls o (s.queue q))
        else s.queue q) ∧ AttnOk t

/-- Where an entry is placed, and when it waits. FIXED: at its one eligible port, whose exclusion never sets it aside;
CONTEST: at every candidate; SHARED: at the one candidate with the smallest load, a tie broken by the rotation that starts
after the last-chosen port, the load of a port being its offers and its claims (R55 to R59). An entry is engine-bound when
its source is armed and its occurrence carries none of ENGINE_DONE, ENGINE_FAULT and ENGINE_ABORTED (R53). An engine-bound
entry waits exactly while the engine queue holds 8 sources, a host-bound one exactly while it has no port (R52, R54). That
PLACEMENT leaves the state unchanged when every entry waits is the model's choice (log entry 4). -/
def Obligations.PlacesOfEntries : Prop :=
  (∀ (s : State) (e : SourceEntry) (p : Port),
    let load (q : Port) : Nat := (s.queue q).length +
      (List.finRange 64).countP fun n => (s.claimOf n).any fun c => c.port == q
    (e.route.mode = .fixed → (∃ q : Port, e.route.eligible = BitVec.twoPow 4 q.val) →
      (p ∈ s.hostPlace e ↔ e.route.eligibleFor p = true ∧ s.online p = true ∧ (s.queue p).length < 16)) ∧
    (e.route.mode = .contest → (p ∈ s.hostPlace e ↔ isCandidate s e p)) ∧
    (e.route.mode = .shared → (s.hostPlace e = [p] ↔ isCandidate s e p ∧ ∀ q, isCandidate s e q →
      load p < load q ∨
        (load p = load q ∧ (p - (e.lastChosen + 1)).val ≤ (q - (e.lastChosen + 1)).val))) ∧
    (e.route.mode = .shared → (s.hostPlace e = [] ↔ ∀ q, ¬isCandidate s e q))) ∧
  (∀ e : SourceEntry, e.engineBound = true ↔
    e.route.descAddr ≠ none ∧ e.flags.done = false ∧ e.flags.fault = false ∧ e.flags.aborted = false) ∧
  (∀ (s : State) (n : SourceId), s.placeOf n = none ↔
    ((s.source n).engineBound = true ∧ 8 ≤ s.engineQueue.length) ∨
      ((s.source n).engineBound = false ∧ s.hostPlace (s.source n) = [])) ∧
  (∀ s : State, (∀ b ∈ s.backlog, s.placeOf b.src = none) → exec .placement s = .next s)

/-! ### Transfer engine -/

/-- An IDLE, RUNNING engine with a source in its queue starts a service: the head source leaves the queue for
ENGINE_ACTIVE, the service record takes its descriptor address, and the first descriptor read is issued. With a service in
flight, HALTED, or with an empty queue no service starts (R128, R129, R132); that SERVICE_START then leaves the state
unchanged is the model's choice (log entry 4). -/
def Obligations.ServiceStarts : Prop :=
  ∀ s : State,
    (∀ n rest d, s.service = none → s.running = true → s.engineQueue = n :: rest →
      (s.source n).route.descAddr = some d → ∃ t, exec .serviceStart s = .next t ∧
      t = { s with sources := t.sources, engineQueue := rest,
                   service := some { src := n, descAddr := d, abort := false, moveFault := false, phase := .fetch0 } } ∧
      SourceBecomes s t n { s.source n with state := .engineActive } ∧
      t.memoryPort = some { write := false, address := d, bytes := 4, data := 0 }) ∧
    (s.service ≠ none ∨ s.running = false ∨ s.engineQueue = [] → exec .serviceStart s = .next s)

/-- FETCH reads the four words of the descriptor at D, D + 4, D + 8 and D + 12 in order, each read issued by the answer to
the one before; after the fourth a valid descriptor enters MOVE (R131, R132, R135). An aborted fetch then hands on with
ENGINE_ABORTED, address unchanged, without a check; an invalid descriptor, and a read answered with error, disarm the
source and hand on with ENGINE_FAULT and one record (R143, R146, R148, R142, Table 7-6). -/
def Obligations.FetchAnswers : Prop :=
  ∀ (s : State) (v : Service) (c x y d : Word), s.service = some v →
    let record (address : Word) (detail : FaultDetail) : FaultRecord :=
      { src := some v.src, port := none, tag := some (s.source v.src).tag, address := some address, detail := detail,
        dropped := 0 }
    (v.phase = .fetch0 → ∃ t, exec (.fetchAnswer (.completed d)) s = .next t ∧ ServiceGoesOn s t v (.fetch1 d) ∧
      t.memoryPort = some ⟨false, v.descAddr + 4, 4, 0⟩) ∧
    (v.phase = .fetch1 c → ∃ t, exec (.fetchAnswer (.completed d)) s = .next t ∧ ServiceGoesOn s t v (.fetch2 c d) ∧
      t.memoryPort = some ⟨false, v.descAddr + 8, 4, 0⟩) ∧
    (v.phase = .fetch2 c x → ∃ t, exec (.fetchAnswer (.completed d)) s = .next t ∧
      ServiceGoesOn s t v (.fetch3 c x d) ∧ t.memoryPort = some ⟨false, v.descAddr + 12, 4, 0⟩) ∧
    (v.phase = .fetch3 c x y → v.abort = false → ∀ w, checkDescriptor c x y d = .ok w →
      ∃ t, exec (.fetchAnswer (.completed d)) s = .next t ∧ ServiceGoesOn s t v (.moveRead w) ∧
      t.memoryPort = some ⟨false, x, w.unit.bytes, 0⟩) ∧
    (v.phase = .fetch3 c x y → v.abort = true → ∃ t, exec (.fetchAnswer (.completed d)) s = .next t ∧
      ServiceEnds s t v (some v.descAddr) [] (some .aborted)) ∧
    (v.phase = .fetch3 c x y → v.abort = false → ∀ why, checkDescriptor c x y d = .error why →
      ∃ t, exec (.fetchAnswer (.completed d)) s = .next t ∧
      ServiceEnds s t v none [record v.descAddr (.descriptorInvalid why)] (some .fault)) ∧
    (∀ i : Word, (v.phase = .fetch0 ∧ i = 0) ∨ (v.phase = .fetch1 c ∧ i = 4) ∨ (v.phase = .fetch2 c x ∧ i = 8) ∨
        (v.phase = .fetch3 c x y ∧ i = 12) →
      ∃ t, exec (.fetchAnswer .error) s = .next t ∧
      ServiceEnds s t v none [record (v.descAddr + i) (.engineBusError .fetch)] (some .fault))

/-- The descriptor check reports the first reason of Table 7-5 that holds, and a valid descriptor enters MOVE with its
fetched fields and the units left at the smaller of burst and count (R135, R136, R137, R192, Tables 7-5 and 10-12). -/
def Obligations.DescriptorCheckInOrder : Prop :=
  ∀ c x y l : Word,
    let unit := (c.extractLsb' 0 2).toNat
    let srcStep := (c.extractLsb' 2 2).toNat
    let dstStep := (c.extractLsb' 4 2).toNat
    let burst := (c.extractLsb' 6 5).toNat
    let policy := (c.extractLsb' 11 2).toNat
    let count := (c.extractLsb' 16 16).toNat
    let bytes := 2 ^ unit
    let good1 := unit ≠ 3
    let good2 := good1 ∧ srcStep ≠ 3 ∧ dstStep ≠ 3
    let good3 := good2 ∧ policy ≠ 3
    let good4 := good3 ∧ 1 ≤ burst ∧ burst ≤ 16
    let good5 := good4 ∧ count ≠ 0
    let good6 := good5 ∧ x.toNat % bytes = 0
    let good7 := good6 ∧ y.toNat % bytes = 0
    (unit = 3 → checkDescriptor c x y l = .error .badUnit) ∧
    (good1 ∧ (srcStep = 3 ∨ dstStep = 3) → checkDescriptor c x y l = .error .badStep) ∧
    (good2 ∧ policy = 3 → checkDescriptor c x y l = .error .badPolicy) ∧
    (good3 ∧ (burst = 0 ∨ 16 < burst) → checkDescriptor c x y l = .error .badBurst) ∧
    (good4 ∧ count = 0 → checkDescriptor c x y l = .error .zeroCount) ∧
    (good5 ∧ x.toNat % bytes ≠ 0 → checkDescriptor c x y l = .error .misalignedSource) ∧
    (good6 ∧ y.toNat % bytes ≠ 0 → checkDescriptor c x y l = .error .misalignedDestination) ∧
    (good7 → ∃ w, checkDescriptor c x y l = .ok w ∧ w.control = c ∧ w.unit.bytes = bytes ∧
      w.srcStep = [AddrStep.fixed, .up, .down].getD srcStep .fixed ∧
      w.dstStep = [AddrStep.fixed, .up, .down].getD dstStep .fixed ∧
      w.policy = [HandOnPolicy.burst, .descriptor, .chain].getD policy .burst ∧
      w.link = (if l.getLsbD 0 then some (l - BitVec.ofNat 32 (l.toNat % 16)) else none) ∧
      w.src = x ∧ w.dst = y ∧ w.count.toNat = count ∧ w.left = min burst count)

/-- MOVE: the answer to a unit read issues the write of the data read; the answer to the write completes the unit, steps
both addresses and lowers count and units left by 1, and the next unit is read unless none is left or an abort is pending,
when the writeback starts. An error hands an ENGINE_BUS_ERROR record, sets the move fault and starts the writeback with
the unit not completed (R137, R144, R146, R149). That a unit of 1 or 2 bytes is the low bytes of the answer is the model's
(log entry 11). -/
def Obligations.UnitsAreMoved : Prop :=
  ∀ (s : State) (v : Service) (w : Work), s.service = some v → 1 ≤ w.left →
    let record (address : Word) (ph : BusPhase) : FaultRecord :=
      { src := some v.src, port := none, tag := some (s.source v.src).tag, address := some address,
        detail := .engineBusError ph, dropped := 0 }
    let faulted (c : Instr) (address : Word) (ph : BusPhase) : Prop := ∃ t, exec c s = .next t ∧
      t = { s with service := some { v with moveFault := true, phase := .writeback w 0 }, faults := t.faults,
                   dropped := t.dropped, attn := t.attn } ∧ RecordsHanded s t [record address ph] ∧ AttnOk t
    (v.phase = .moveRead w →
      (∀ d : Word, ∃ t out, exec (.unitReadAnswer (.completed d)) s = .next t ∧
        ServiceGoesOn s t v (.moveWrite w out) ∧ out.toNat = d.toNat % 2 ^ (8 * w.unit.bytes) ∧
        t.memoryPort = some ⟨true, w.dst, w.unit.bytes, out⟩) ∧
      faulted (.unitReadAnswer .error) w.src .moveRead) ∧
    (∀ d : Word, v.phase = .moveWrite w d →
      (∃ t w', exec (.unitWriteAnswer .completed) s = .next t ∧
        w' = { w with src := stepAddr w.srcStep w.unit w.src, dst := stepAddr w.dstStep w.unit w.dst,
                      count := w.count - 1, left := w.left - 1 } ∧
        ServiceGoesOn s t v (if w.left = 1 ∨ v.abort = true then .writeback w' 0 else .moveRead w')) ∧
      faulted (.unitWriteAnswer .error) w.dst .moveWrite)

/-- A burst whose answers all complete moves every unit left: after one read answer and one write answer for each, the
writeback starts with the addresses stepped that many times and the count lowered by as many (R137, R138). -/
def Obligations.BurstMovesEveryUnit : Prop :=
  ∀ (data : List Word) (s : State) (v : Service) (w : Work) (rest : List Instr), s.service = some v →
    v.phase = .moveRead w → v.abort = false → 1 ≤ w.left → w.left ≤ w.count.toNat → data.length = w.left →
    s.pending = (data.flatMap fun d => [Instr.unitReadAnswer (.completed d), .unitWriteAnswer .completed]) ++ rest →
    ∃ (t : State) (w' : Work), Host.Core.run Sys2Proof.core (2 * data.length) s = .next t ∧ t.pending = rest ∧
      t.service = some { v with phase := .writeback w' 0 } ∧
      w' = { w with src := w'.src, dst := w'.dst, count := w'.count, left := 0 } ∧
      w'.src = (stepAddr w.srcStep w.unit)^[data.length] w.src ∧
      w'.dst = (stepAddr w.dstStep w.unit)^[data.length] w.dst ∧
      w'.count.toNat = w.count.toNat - data.length

/-- FIXED leaves an address as it is, UP adds the unit size and DOWN subtracts it, modulo 2 to the power 32; a multiple of
the unit size stays one, and source and destination step independently (R138). -/
def Obligations.AddressSteps : Prop :=
  (∀ (u : UnitSize) (a : Word),
    stepAddr .fixed u a = a ∧
    (stepAddr .up u a).toNat = (a.toNat + u.bytes) % 2 ^ 32 ∧
    (stepAddr .down u a).toNat = (a.toNat + 2 ^ 32 - u.bytes) % 2 ^ 32) ∧
  (∀ (st : AddrStep) (u : UnitSize) (a : Word), a.toNat % u.bytes = 0 → (stepAddr st u a).toNat % u.bytes = 0) ∧
  (∀ w : Work, w.completeUnit.src = stepAddr w.srcStep w.unit w.src ∧
    w.completeUnit.dst = stepAddr w.dstStep w.unit w.dst)

/-- WRITEBACK writes the control word as fetched but for the count, then the source address, then the destination address;
the third answer ends the service: by R140 and the policy, handed on with ENGINE_ABORTED after an abort, disarmed with
ENGINE_FAULT after a move fault. An error ends it at that word, disarmed, with one record (R139, R140, R141, R144, R145,
R149, Table 7-6). -/
def Obligations.WritebackEndsService : Prop :=
  ∀ (s : State) (v : Service) (w : Work) (k : Fin 3), s.service = some v → v.phase = .writeback w k →
    let control : Word := w.count ++ w.control.extractLsb' 0 16
    let address : Word := v.descAddr + BitVec.ofNat 32 (4 * k.val)
    let after : Option Word := if w.count = 0 then w.link else some v.descAddr
    s.memoryPort = some ⟨true, address, 4, if k = 0 then control else if k = 1 then w.src else w.dst⟩ ∧
    (k ≠ 2 → ∃ t, exec (.writebackAnswer .completed) s = .next t ∧ ServiceGoesOn s t v (.writeback w (k + 1))) ∧
    (k = 2 → ∃ t, exec (.writebackAnswer .completed) s = .next t ∧
      (v.moveFault = true → ServiceEnds s t v none [] (some .fault)) ∧
      (v.moveFault = false → v.abort = true → ServiceEnds s t v after [] (some .aborted)) ∧
      (v.moveFault = false → v.abort = false →
        (w.policy = .burst ∨ (w.policy = .descriptor ∧ w.count = 0) ∨
          (w.policy = .chain ∧ w.count = 0 ∧ w.link = none) → ServiceEnds s t v after [] (some .done)) ∧
        ((w.policy = .descriptor ∧ w.count ≠ 0) ∨ (w.policy = .chain ∧ (w.count ≠ 0 ∨ w.link ≠ none)) →
          ServiceEnds s t v after [] none))) ∧
    ∃ t, exec (.writebackAnswer .error) s = .next t ∧
      ServiceEnds s t v none
        [{ src := some v.src, port := none, tag := some (s.source v.src).tag, address := some address,
           detail := .engineBusError .writeback, dropped := 0 }] (some .fault)

/-! ### Rules of the whole part -/

/-- A source's tag is changed by a placement to hosts, which adds 1 modulo 256, and by power-on alone; its route record by
power-on, ROUTE COMMIT of the port that selects it, DISABLE of it, and the end of its engine service, DISABLE changing the
enable field alone and the engine the descriptor address alone (R2, R3, R16, R24). -/
def Obligations.TagAndRouteChangers : Prop :=
  ∀ (c : Instr) (s t : State) (n : SourceId), exec c s = .next t →
    ((t.source n).tag = (s.source n).tag ∨
      (c = .placement ∧ (t.source n).tag = (s.source n).tag + 1 ∧ (t.source n).state = .offered) ∨
      ∃ levels, c = .powerOn levels ∧ (t.source n).tag = 0) ∧
    ((t.source n).route = (s.source n).route ∨
      (∃ levels, c = .powerOn levels) ∨
      (∃ p, c = .routeCommit p ∧ (s.port p).selected = n ∧ s.lease = some p) ∨
      (∃ p, c = .disable p n ∧ s.lease = some p ∧ (t.source n).route = { (s.source n).route with enable := false }) ∨
      ((∃ a, c = .fetchAnswer a) ∨ ∃ a, c = .writebackAnswer a) ∧ t.service = none ∧
        (∃ v, s.service = some v ∧ v.src = n) ∧
        (t.source n).route = { (s.source n).route with descAddr := (t.source n).route.descAddr })

/-- An access at one port leaves every other port its settings, its RESULT, the word it last read, its claims and the
lease it holds (R99, R163, R166, R169, R179). -/
def Obligations.AccessesLeaveOtherPorts : Prop :=
  ∀ (c : Instr) (s t : State) (p q : Port), Inv s → accessPort c = some p → q ≠ p → exec c s = .next t →
    t.port q = s.port q ∧ t.readWord[q] = s.readWord[q] ∧ (s.lease = some q → t.lease = some q) ∧
    ∀ n cl, s.claimOf n = some cl → cl.port = q → t.claimOf n = some cl

/-- A claim leaves the claim table only by COMPLETE or RETURN at its port with its tag, by its expiry when due, by the reset
of its port, by part reset or at power-on (R88, R99, R114). -/
def Obligations.ClaimEndsOnlyBy : Prop :=
  ∀ (c : Instr) (s t : State) (n : SourceId) (cl : Claim), exec c s = .next t → s.claimOf n = some cl →
    t.claimOf n = none →
    c = .complete cl.port n cl.tag ∨ c = .returnClaim cl.port n cl.tag ∨
    (c = .expiry n ∧ cl.remaining = some 0) ∨ c = .portReset ⟨cl.port, true⟩ ∨ c = .partReset ∨ ∃ levels, c = .powerOn levels

/-- Route records but for the engine's address changes, enables, the claim timing and the run/halt setting change only by
an access of the port that holds the lease, ONLINE, or by part reset or power-on (section 8.5, R164, R166). -/
def Obligations.OnlyLeaseHolderConfigures : Prop :=
  ∀ (c : Instr) (s t : State) (n : SourceId), exec c s = .next t →
    (t.divider ≠ s.divider ∨ t.limits ≠ s.limits ∨ t.running ≠ s.running ∨
      { (t.source n).route with descAddr := none } ≠ { (s.source n).route with descAddr := none }) →
    (∃ levels, c = .powerOn levels) ∨ c = .partReset ∨
    ∃ p, accessPort c = some p ∧ s.lease = some p ∧ s.online p = true

/-! ### Words -/

/-- The layouts of PORT STATUS, ENGINE STATUS, LINE STATE 0 and LINE STATE 1 (R188, Tables 10-6 and 10-7), in a part whose
collections keep their room. -/
def Obligations.StatusWordLayouts : Prop :=
  ∀ (s : State) (p : Port), s.claimCount p ≤ 8 → (s.queue p).length ≤ 16 → s.engineQueue.length ≤ 8 →
    (∃ w, s.statusRead p 0x04 = some w ∧
      (w.extractLsb' 0 2).toNat = (match (s.port p).state with | .offline => 0 | .online => 1 | .draining => 2) ∧
      (w.extractLsb' 2 4).toNat = s.claimCount p ∧ (w.extractLsb' 6 5).toNat = (s.queue p).length ∧
      (w.extractLsb' 11 4).toNat = (s.port p).floor.val ∧ w.getLsbD 15 = (s.port p).faultWatch ∧
      (w.extractLsb' 16 6).toNat = (s.port p).selected.val ∧
      (w.extractLsb' 22 2).toNat = (match s.lease with | none => 0 | some q => if q = p then 1 else 2) ∧
      (w.extractLsb' 24 2).toNat = (match s.lease with | none => 0 | some q => q.val) ∧ w.extractLsb' 26 6 = 0) ∧
    (∃ w, s.statusRead p 0x2C = some w ∧
      (w.extractLsb' 0 2).toNat = (match s.service with
        | none => 0
        | some v => if v.phase.isWriteback then 3 else if v.phase.work?.isSome then 2 else 1) ∧
      w.getLsbD 2 = !s.running ∧ w.getLsbD 3 = s.service.isSome ∧
      (w.extractLsb' 4 6).toNat = (match s.service with | none => 0 | some v => v.src.val) ∧
      w.getLsbD 10 = (match s.service with | none => false | some v => v.abort) ∧
      (w.extractLsb' 11 4).toNat = s.engineQueue.length ∧ w.extractLsb' 15 17 = 0) ∧
    (∃ w, s.statusRead p 0x24 = some w ∧ ∀ i, i < 32 → w.getLsbD i = s.currentSample.getLsbD i) ∧
    (∃ w, s.statusRead p 0x28 = some w ∧ (∀ i, i < 16 → w.getLsbD i = s.currentSample.getLsbD (32 + i)) ∧
      w.extractLsb' 16 16 = 0)

/-- The layouts of the claim word, the OFFER HEAD word and CLAIM DATA, and the values of the codes in them and in RESULT
(R189, R191, Tables 10-8 and 10-11, R82, R96). -/
def Obligations.ClaimAndOfferWordLayouts : Prop :=
  (∀ (n : SourceId) (c : Claim), let w := claimWord n c
    w.extractLsb' 0 4 = 0 ∧ (w.extractLsb' 4 6).toNat = n.val ∧ (w.extractLsb' 10 3).toNat = c.cls.val ∧
    w.getLsbD 13 = c.payload.isSome ∧ w.getLsbD 14 = c.flags.done ∧ w.getLsbD 15 = c.flags.fault ∧
    w.getLsbD 16 = c.flags.aborted ∧ w.getLsbD 17 = c.flags.reoffer ∧ w.extractLsb' 18 8 = c.tag ∧
    w.extractLsb' 26 6 = 0) ∧
  (∀ (s : State) (p : Port), s.queue p = [] → s.statusRead p 0x14 = some 1) ∧
  (∀ (s : State) (p : Port) (o : Offer) (rest : List Offer), s.queue p = o :: rest → rest.length < 16 →
    ∃ w, s.statusRead p 0x14 = some w ∧
    w.extractLsb' 0 4 = 0 ∧ (w.extractLsb' 4 6).toNat = o.src.val ∧ (w.extractLsb' 10 3).toNat = o.cls.val ∧
    w.getLsbD 13 = o.contest ∧ w.getLsbD 14 = o.flags.done ∧ w.getLsbD 15 = o.flags.fault ∧
    w.getLsbD 16 = o.flags.aborted ∧ w.getLsbD 17 = o.flags.reoffer ∧ w.extractLsb' 18 8 = o.tag ∧
    (w.extractLsb' 26 5).toNat = rest.length + 1 ∧ w.getLsbD 31 = false) ∧
  (∀ (s : State) (p : Port), (s.port p).claimData = none →
    (∃ w, s.statusRead p 0x0C = some w ∧ w.extractLsb' 0 4 = 1) ∧ s.statusRead p 0x10 = some 0) ∧
  (∀ (s : State) (p : Port) (d : ClaimData), (s.port p).claimData = some d →
    (∃ w, s.statusRead p 0x0C = some w ∧ w.extractLsb' 0 4 = 0 ∧ (w.extractLsb' 4 6).toNat = d.src.val ∧
      w.getLsbD 10 = d.payload.isSome ∧ (w.extractLsb' 16 8).toNat = d.fold.val ∧
      w.extractLsb' 11 5 = 0 ∧ w.extractLsb' 24 8 = 0) ∧
    (∃ w, s.statusRead p 0x10 = some w ∧ w.extractLsb' 0 16 = d.payload.getD 0 ∧ w.extractLsb' 16 16 = 0)) ∧
  (∀ (s : State) (p : Port), ∃ w, s.statusRead p 0x00 = some w ∧
    w.toNat = match (s.port p).result with
      | .ok => 0 | .empty => 1 | .full => 2 | .busy => 3 | .invalid => 4 | .leased => 5 | .nolease => 6
      | .offline => 7 | .notOnline => 8 | .mismatch => 9 | .stale => 10 | .limit => 11 | .disabled => 12)

/-- The layouts of the two words of a fault record and of FAULT DATA 0 and 1 (R190, Tables 10-9 and 10-10), for records
whose fields are present as Table 9-3 says and whose claim counts stay in its ranges. -/
def Obligations.FaultWordLayouts : Prop :=
  (∀ r : FaultRecord, let w := r.firstWord
    w.extractLsb' 0 4 = 0 ∧
    (w.extractLsb' 4 3).toNat = (match r.detail with
      | .claimExpired _ _ => 1 | .abandoned _ => 2 | .unserved _ => 3 | .engineBusError _ => 4
      | .descriptorInvalid _ => 5 | .portReset _ => 6 | .partReset _ => 7) ∧
    w.getLsbD 7 = r.src.isSome ∧
    (w.extractLsb' 8 6).toNat = (match r.src with | none => 0 | some n => n.val) ∧
    (w.extractLsb' 14 2).toNat = (match r.detail with
      | .claimExpired _ _ | .abandoned _ | .portReset _ => (match r.port with | none => 0 | some p => p.val)
      | .engineBusError .fetch => 0 | .engineBusError .moveRead => 1 | .engineBusError .moveWrite => 2
      | .engineBusError .writeback => 3 | .partReset k => k / 16 % 4
      | .unserved _ | .descriptorInvalid _ => 0) ∧
    w.extractLsb' 16 8 = r.tag.getD 0 ∧ (w.extractLsb' 24 8).toNat = r.dropped.val) ∧
  (∀ r : FaultRecord, let w := r.secondWord
    match r.detail with
    | .claimExpired k dp => (w.extractLsb' 0 2).toNat = k.val ∧ w.getLsbD 2 = dp ∧ w.extractLsb' 3 29 = 0
    | .abandoned f => w.toNat = f.val
    | .unserved fl => w.getLsbD 0 = fl.done ∧ w.getLsbD 1 = fl.fault ∧ w.getLsbD 2 = fl.aborted ∧
        w.getLsbD 3 = fl.reoffer ∧ w.extractLsb' 4 28 = 0
    | .engineBusError _ => w = r.address.getD 0
    | .descriptorInvalid why => w.extractLsb' 4 28 = (r.address.getD 0).extractLsb' 4 28 ∧
        (w.extractLsb' 0 4).toNat = (match why with
          | .badUnit => 1 | .badStep => 2 | .badPolicy => 3 | .badBurst => 4 | .zeroCount => 5
          | .misalignedSource => 6 | .misalignedDestination => 7)
    | .portReset k => k ≤ 8 → w.toNat = k
    | .partReset k => w.extractLsb' 4 28 = (r.address.getD 0).extractLsb' 4 28 ∧
        (w.extractLsb' 0 4).toNat = k % 16) ∧
  (∀ (s : State) (p : Port),
    s.statusRead p 0x1C = some (if (s.port p).faultData = none then 1 else 0) ∧
    ∀ d, (s.port p).faultData = some d → s.statusRead p 0x20 = some d)

/-- ROUTE STATE 0, 1 and 2 show the route record and the status of the port's selected source, with the holding port of
its claim; STAGING 0 and 1 show the port's staging, TICK DIVIDER the last value accepted and LIMIT0 to LIMIT3 the values in
force (R112, R169, R170, R185, R186, R187, Tables 10-4 and 10-5). -/
def Obligations.RouteStateLayouts : Prop :=
  ∀ (s : State) (p : Port), let n := (s.port p).selected
    let e := s.source n
    e.payloads.length ≤ 4 → (∀ a, e.route.descAddr = some a → a.toNat % 16 = 0) →
    (∃ w, s.statusRead p 0x30 = some w ∧ w.getLsbD 0 = e.route.enable ∧
      (w.extractLsb' 1 3).toNat = e.route.cls.val ∧
      (w.extractLsb' 4 3).toNat = (match e.route.detection with
        | none => 0 | some .rising => 1 | some .falling => 2 | some .both => 3 | some .high => 4 | some .low => 5) ∧
      (w.extractLsb' 7 2).toNat = (match e.route.mode with | .fixed => 0 | .shared => 1 | .contest => 2) ∧
      (∀ q : Port, w.getLsbD (9 + q.val) = e.route.eligibleFor q) ∧
      (w.extractLsb' 13 2).toNat = e.route.limitIdx.val ∧ w.getLsbD 15 = e.route.descAddr.isSome ∧
      (w.extractLsb' 16 6).toNat = n.val ∧ w.getLsbD 22 = decide (e.state = .claimed) ∧
      (∀ c, e.state = .claimed → s.claimOf n = some c → (w.extractLsb' 23 2).toNat = c.port.val) ∧
      w.extractLsb' 25 7 = 0) ∧
    (s.statusRead p 0x34 = some (e.route.descAddr.getD 0)) ∧
    (∃ w, s.statusRead p 0x38 = some w ∧
      (w.extractLsb' 0 3).toNat = (match e.state with
        | .disabled => 0 | .idle => 1 | .latched => 2 | .offered => 3 | .claimed => 4 | .engineWait => 5
        | .engineActive => 6 | .suspended => 7) ∧
      w.getLsbD 3 = e.again ∧ (w.extractLsb' 4 2).toNat = e.revocations.val ∧
      w.getLsbD 6 = e.exclusion.isSome ∧ (∀ q, e.exclusion = some q → (w.extractLsb' 7 2).toNat = q.val) ∧
      w.getLsbD 9 = e.flags.done ∧ w.getLsbD 10 = e.flags.fault ∧ w.getLsbD 11 = e.flags.aborted ∧
      w.getLsbD 12 = e.flags.reoffer ∧ (w.extractLsb' 13 3).toNat = e.payloads.length ∧
      w.extractLsb' 16 8 = e.tag ∧ (w.extractLsb' 24 8).toNat = e.fold.val) ∧
    let g := (s.port p).staging
    (∃ w, s.statusRead p 0x3C = some w ∧ w.getLsbD 0 = g.enable ∧ (w.extractLsb' 1 3).toNat = g.cls.val ∧
      (w.extractLsb' 4 3).toNat = (match g.detection with
        | none => 0 | some .rising => 1 | some .falling => 2 | some .both => 3 | some .high => 4 | some .low => 5) ∧
      (w.extractLsb' 7 2).toNat = (match g.mode with | .fixed => 0 | .shared => 1 | .contest => 2) ∧
      w.extractLsb' 9 4 = g.eligible ∧ (w.extractLsb' 13 2).toNat = g.limitIdx.val ∧ w.getLsbD 15 = g.descPresent ∧
      w.extractLsb' 16 16 = 0) ∧
    s.statusRead p 0x40 = some g.descAddr ∧
    (s.divider ≤ 4096 → ∃ w, s.statusRead p 0x44 = some w ∧ w.toNat = s.divider) ∧
    ∀ i : Fin 4, ∃ w, s.statusRead p (0x48 + BitVec.ofNat 8 (4 * i.val)) = some w ∧ w.toNat = s.limits[i].toNat

/-- Every command that an access spells is read back from its access, with every operand at every value, and so is it from
every access whose word has the same operand bits, whatever its other bits: the offsets, directions and byte enables of
Table 10-2 and the operand fields of Table 10-3 lose nothing, and a command uses the bits of its fields alone (R182, R183,
R184, R185). -/
def Obligations.AccessDecodesItsCommand : Prop :=
  ∀ (i : Instr) (p : Port), i.wellFormed = true → accessPort i = some p →
    ∃ a, encodeAccess i = some (p, a) ∧ decodeAccess p a = some i ∧
      ∀ w : Word, w &&& operandBits i = a.data &&& operandBits i → decodeAccess p { a with data := w } = some i
end

