-- ==== Sys2Proof/Laws/State.lean ====
section
/-! SUPPORT. What each update of the state leaves as it was, one lemma per field (true by rfl), and what reading a table
after writing it gives. -/

namespace Sys2Proof.Machine

variable (s : State)

/-! #### State.setSource -/
@[simp] theorem State.setSource_backlog (n : SourceId) (e : SourceEntry) : (s.setSource n e).backlog = s.backlog := rfl
@[simp] theorem State.setSource_offers (n : SourceId) (e : SourceEntry) : (s.setSource n e).offers = s.offers := rfl
@[simp] theorem State.setSource_claims (n : SourceId) (e : SourceEntry) : (s.setSource n e).claims = s.claims := rfl
@[simp] theorem State.setSource_ports (n : SourceId) (e : SourceEntry) : (s.setSource n e).ports = s.ports := rfl
@[simp] theorem State.setSource_lease (n : SourceId) (e : SourceEntry) : (s.setSource n e).lease = s.lease := rfl
@[simp] theorem State.setSource_attn (n : SourceId) (e : SourceEntry) : (s.setSource n e).attn = s.attn := rfl
@[simp] theorem State.setSource_readWord (n : SourceId) (e : SourceEntry) : (s.setSource n e).readWord = s.readWord := rfl
@[simp] theorem State.setSource_currentSample (n : SourceId) (e : SourceEntry) : (s.setSource n e).currentSample = s.currentSample := rfl
@[simp] theorem State.setSource_previousSample (n : SourceId) (e : SourceEntry) : (s.setSource n e).previousSample = s.previousSample := rfl
@[simp] theorem State.setSource_prescale (n : SourceId) (e : SourceEntry) : (s.setSource n e).prescale = s.prescale := rfl
@[simp] theorem State.setSource_divider (n : SourceId) (e : SourceEntry) : (s.setSource n e).divider = s.divider := rfl
@[simp] theorem State.setSource_interval (n : SourceId) (e : SourceEntry) : (s.setSource n e).interval = s.interval := rfl
@[simp] theorem State.setSource_limits (n : SourceId) (e : SourceEntry) : (s.setSource n e).limits = s.limits := rfl
@[simp] theorem State.setSource_engineQueue (n : SourceId) (e : SourceEntry) : (s.setSource n e).engineQueue = s.engineQueue := rfl
@[simp] theorem State.setSource_running (n : SourceId) (e : SourceEntry) : (s.setSource n e).running = s.running := rfl
@[simp] theorem State.setSource_service (n : SourceId) (e : SourceEntry) : (s.setSource n e).service = s.service := rfl
@[simp] theorem State.setSource_faults (n : SourceId) (e : SourceEntry) : (s.setSource n e).faults = s.faults := rfl
@[simp] theorem State.setSource_dropped (n : SourceId) (e : SourceEntry) : (s.setSource n e).dropped = s.dropped := rfl
@[simp] theorem State.setSource_resetNote (n : SourceId) (e : SourceEntry) : (s.setSource n e).resetNote = s.resetNote := rfl
@[simp] theorem State.setSource_portResets (n : SourceId) (e : SourceEntry) : (s.setSource n e).portResets = s.portResets := rfl
@[simp] theorem State.setSource_held (n : SourceId) (e : SourceEntry) : (s.setSource n e).held = s.held := rfl
@[simp] theorem State.setSource_pending (n : SourceId) (e : SourceEntry) : (s.setSource n e).pending = s.pending := rfl

/-! #### State.modPort -/
@[simp] theorem State.modPort_sources (p : Port) (f : PortRegs → PortRegs) : (s.modPort p f).sources = s.sources := rfl
@[simp] theorem State.modPort_backlog (p : Port) (f : PortRegs → PortRegs) : (s.modPort p f).backlog = s.backlog := rfl
@[simp] theorem State.modPort_offers (p : Port) (f : PortRegs → PortRegs) : (s.modPort p f).offers = s.offers := rfl
@[simp] theorem State.modPort_claims (p : Port) (f : PortRegs → PortRegs) : (s.modPort p f).claims = s.claims := rfl
@[simp] theorem State.modPort_lease (p : Port) (f : PortRegs → PortRegs) : (s.modPort p f).lease = s.lease := rfl
@[simp] theorem State.modPort_attn (p : Port) (f : PortRegs → PortRegs) : (s.modPort p f).attn = s.attn := rfl
@[simp] theorem State.modPort_readWord (p : Port) (f : PortRegs → PortRegs) : (s.modPort p f).readWord = s.readWord := rfl
@[simp] theorem State.modPort_currentSample (p : Port) (f : PortRegs → PortRegs) : (s.modPort p f).currentSample = s.currentSample := rfl
@[simp] theorem State.modPort_previousSample (p : Port) (f : PortRegs → PortRegs) : (s.modPort p f).previousSample = s.previousSample := rfl
@[simp] theorem State.modPort_prescale (p : Port) (f : PortRegs → PortRegs) : (s.modPort p f).prescale = s.prescale := rfl
@[simp] theorem State.modPort_divider (p : Port) (f : PortRegs → PortRegs) : (s.modPort p f).divider = s.divider := rfl
@[simp] theorem State.modPort_interval (p : Port) (f : PortRegs → PortRegs) : (s.modPort p f).interval = s.interval := rfl
@[simp] theorem State.modPort_limits (p : Port) (f : PortRegs → PortRegs) : (s.modPort p f).limits = s.limits := rfl
@[simp] theorem State.modPort_engineQueue (p : Port) (f : PortRegs → PortRegs) : (s.modPort p f).engineQueue = s.engineQueue := rfl
@[simp] theorem State.modPort_running (p : Port) (f : PortRegs → PortRegs) : (s.modPort p f).running = s.running := rfl
@[simp] theorem State.modPort_service (p : Port) (f : PortRegs → PortRegs) : (s.modPort p f).service = s.service := rfl
@[simp] theorem State.modPort_faults (p : Port) (f : PortRegs → PortRegs) : (s.modPort p f).faults = s.faults := rfl
@[simp] theorem State.modPort_dropped (p : Port) (f : PortRegs → PortRegs) : (s.modPort p f).dropped = s.dropped := rfl
@[simp] theorem State.modPort_resetNote (p : Port) (f : PortRegs → PortRegs) : (s.modPort p f).resetNote = s.resetNote := rfl
@[simp] theorem State.modPort_portResets (p : Port) (f : PortRegs → PortRegs) : (s.modPort p f).portResets = s.portResets := rfl
@[simp] theorem State.modPort_held (p : Port) (f : PortRegs → PortRegs) : (s.modPort p f).held = s.held := rfl
@[simp] theorem State.modPort_pending (p : Port) (f : PortRegs → PortRegs) : (s.modPort p f).pending = s.pending := rfl

/-! #### State.setResult -/
@[simp] theorem State.setResult_sources (p : Port) (c : Result) : (s.setResult p c).sources = s.sources := rfl
@[simp] theorem State.setResult_backlog (p : Port) (c : Result) : (s.setResult p c).backlog = s.backlog := rfl
@[simp] theorem State.setResult_offers (p : Port) (c : Result) : (s.setResult p c).offers = s.offers := rfl
@[simp] theorem State.setResult_claims (p : Port) (c : Result) : (s.setResult p c).claims = s.claims := rfl
@[simp] theorem State.setResult_lease (p : Port) (c : Result) : (s.setResult p c).lease = s.lease := rfl
@[simp] theorem State.setResult_attn (p : Port) (c : Result) : (s.setResult p c).attn = s.attn := rfl
@[simp] theorem State.setResult_readWord (p : Port) (c : Result) : (s.setResult p c).readWord = s.readWord := rfl
@[simp] theorem State.setResult_currentSample (p : Port) (c : Result) : (s.setResult p c).currentSample = s.currentSample := rfl
@[simp] theorem State.setResult_previousSample (p : Port) (c : Result) : (s.setResult p c).previousSample = s.previousSample := rfl
@[simp] theorem State.setResult_prescale (p : Port) (c : Result) : (s.setResult p c).prescale = s.prescale := rfl
@[simp] theorem State.setResult_divider (p : Port) (c : Result) : (s.setResult p c).divider = s.divider := rfl
@[simp] theorem State.setResult_interval (p : Port) (c : Result) : (s.setResult p c).interval = s.interval := rfl
@[simp] theorem State.setResult_limits (p : Port) (c : Result) : (s.setResult p c).limits = s.limits := rfl
@[simp] theorem State.setResult_engineQueue (p : Port) (c : Result) : (s.setResult p c).engineQueue = s.engineQueue := rfl
@[simp] theorem State.setResult_running (p : Port) (c : Result) : (s.setResult p c).running = s.running := rfl
@[simp] theorem State.setResult_service (p : Port) (c : Result) : (s.setResult p c).service = s.service := rfl
@[simp] theorem State.setResult_faults (p : Port) (c : Result) : (s.setResult p c).faults = s.faults := rfl
@[simp] theorem State.setResult_dropped (p : Port) (c : Result) : (s.setResult p c).dropped = s.dropped := rfl
@[simp] theorem State.setResult_resetNote (p : Port) (c : Result) : (s.setResult p c).resetNote = s.resetNote := rfl
@[simp] theorem State.setResult_portResets (p : Port) (c : Result) : (s.setResult p c).portResets = s.portResets := rfl
@[simp] theorem State.setResult_held (p : Port) (c : Result) : (s.setResult p c).held = s.held := rfl
@[simp] theorem State.setResult_pending (p : Port) (c : Result) : (s.setResult p c).pending = s.pending := rfl

/-! #### State.setQueue -/
@[simp] theorem State.setQueue_sources (p : Port) (q : List Offer) : (s.setQueue p q).sources = s.sources := rfl
@[simp] theorem State.setQueue_backlog (p : Port) (q : List Offer) : (s.setQueue p q).backlog = s.backlog := rfl
@[simp] theorem State.setQueue_claims (p : Port) (q : List Offer) : (s.setQueue p q).claims = s.claims := rfl
@[simp] theorem State.setQueue_ports (p : Port) (q : List Offer) : (s.setQueue p q).ports = s.ports := rfl
@[simp] theorem State.setQueue_lease (p : Port) (q : List Offer) : (s.setQueue p q).lease = s.lease := rfl
@[simp] theorem State.setQueue_attn (p : Port) (q : List Offer) : (s.setQueue p q).attn = s.attn := rfl
@[simp] theorem State.setQueue_readWord (p : Port) (q : List Offer) : (s.setQueue p q).readWord = s.readWord := rfl
@[simp] theorem State.setQueue_currentSample (p : Port) (q : List Offer) : (s.setQueue p q).currentSample = s.currentSample := rfl
@[simp] theorem State.setQueue_previousSample (p : Port) (q : List Offer) : (s.setQueue p q).previousSample = s.previousSample := rfl
@[simp] theorem State.setQueue_prescale (p : Port) (q : List Offer) : (s.setQueue p q).prescale = s.prescale := rfl
@[simp] theorem State.setQueue_divider (p : Port) (q : List Offer) : (s.setQueue p q).divider = s.divider := rfl
@[simp] theorem State.setQueue_interval (p : Port) (q : List Offer) : (s.setQueue p q).interval = s.interval := rfl
@[simp] theorem State.setQueue_limits (p : Port) (q : List Offer) : (s.setQueue p q).limits = s.limits := rfl
@[simp] theorem State.setQueue_engineQueue (p : Port) (q : List Offer) : (s.setQueue p q).engineQueue = s.engineQueue := rfl
@[simp] theorem State.setQueue_running (p : Port) (q : List Offer) : (s.setQueue p q).running = s.running := rfl
@[simp] theorem State.setQueue_service (p : Port) (q : List Offer) : (s.setQueue p q).service = s.service := rfl
@[simp] theorem State.setQueue_faults (p : Port) (q : List Offer) : (s.setQueue p q).faults = s.faults := rfl
@[simp] theorem State.setQueue_dropped (p : Port) (q : List Offer) : (s.setQueue p q).dropped = s.dropped := rfl
@[simp] theorem State.setQueue_resetNote (p : Port) (q : List Offer) : (s.setQueue p q).resetNote = s.resetNote := rfl
@[simp] theorem State.setQueue_portResets (p : Port) (q : List Offer) : (s.setQueue p q).portResets = s.portResets := rfl
@[simp] theorem State.setQueue_held (p : Port) (q : List Offer) : (s.setQueue p q).held = s.held := rfl
@[simp] theorem State.setQueue_pending (p : Port) (q : List Offer) : (s.setQueue p q).pending = s.pending := rfl

/-! #### State.putOffer -/
@[simp] theorem State.putOffer_sources (p : Port) (o : Offer) : (s.putOffer p o).sources = s.sources := rfl
@[simp] theorem State.putOffer_backlog (p : Port) (o : Offer) : (s.putOffer p o).backlog = s.backlog := rfl
@[simp] theorem State.putOffer_claims (p : Port) (o : Offer) : (s.putOffer p o).claims = s.claims := rfl
@[simp] theorem State.putOffer_ports (p : Port) (o : Offer) : (s.putOffer p o).ports = s.ports := rfl
@[simp] theorem State.putOffer_lease (p : Port) (o : Offer) : (s.putOffer p o).lease = s.lease := rfl
@[simp] theorem State.putOffer_attn (p : Port) (o : Offer) : (s.putOffer p o).attn = s.attn := rfl
@[simp] theorem State.putOffer_readWord (p : Port) (o : Offer) : (s.putOffer p o).readWord = s.readWord := rfl
@[simp] theorem State.putOffer_currentSample (p : Port) (o : Offer) : (s.putOffer p o).currentSample = s.currentSample := rfl
@[simp] theorem State.putOffer_previousSample (p : Port) (o : Offer) : (s.putOffer p o).previousSample = s.previousSample := rfl
@[simp] theorem State.putOffer_prescale (p : Port) (o : Offer) : (s.putOffer p o).prescale = s.prescale := rfl
@[simp] theorem State.putOffer_divider (p : Port) (o : Offer) : (s.putOffer p o).divider = s.divider := rfl
@[simp] theorem State.putOffer_interval (p : Port) (o : Offer) : (s.putOffer p o).interval = s.interval := rfl
@[simp] theorem State.putOffer_limits (p : Port) (o : Offer) : (s.putOffer p o).limits = s.limits := rfl
@[simp] theorem State.putOffer_engineQueue (p : Port) (o : Offer) : (s.putOffer p o).engineQueue = s.engineQueue := rfl
@[simp] theorem State.putOffer_running (p : Port) (o : Offer) : (s.putOffer p o).running = s.running := rfl
@[simp] theorem State.putOffer_service (p : Port) (o : Offer) : (s.putOffer p o).service = s.service := rfl
@[simp] theorem State.putOffer_faults (p : Port) (o : Offer) : (s.putOffer p o).faults = s.faults := rfl
@[simp] theorem State.putOffer_dropped (p : Port) (o : Offer) : (s.putOffer p o).dropped = s.dropped := rfl
@[simp] theorem State.putOffer_resetNote (p : Port) (o : Offer) : (s.putOffer p o).resetNote = s.resetNote := rfl
@[simp] theorem State.putOffer_portResets (p : Port) (o : Offer) : (s.putOffer p o).portResets = s.portResets := rfl
@[simp] theorem State.putOffer_held (p : Port) (o : Offer) : (s.putOffer p o).held = s.held := rfl
@[simp] theorem State.putOffer_pending (p : Port) (o : Offer) : (s.putOffer p o).pending = s.pending := rfl

/-! #### State.setClaim -/
@[simp] theorem State.setClaim_sources (n : SourceId) (c : Option Claim) : (s.setClaim n c).sources = s.sources := rfl
@[simp] theorem State.setClaim_backlog (n : SourceId) (c : Option Claim) : (s.setClaim n c).backlog = s.backlog := rfl
@[simp] theorem State.setClaim_offers (n : SourceId) (c : Option Claim) : (s.setClaim n c).offers = s.offers := rfl
@[simp] theorem State.setClaim_ports (n : SourceId) (c : Option Claim) : (s.setClaim n c).ports = s.ports := rfl
@[simp] theorem State.setClaim_lease (n : SourceId) (c : Option Claim) : (s.setClaim n c).lease = s.lease := rfl
@[simp] theorem State.setClaim_attn (n : SourceId) (c : Option Claim) : (s.setClaim n c).attn = s.attn := rfl
@[simp] theorem State.setClaim_readWord (n : SourceId) (c : Option Claim) : (s.setClaim n c).readWord = s.readWord := rfl
@[simp] theorem State.setClaim_currentSample (n : SourceId) (c : Option Claim) : (s.setClaim n c).currentSample = s.currentSample := rfl
@[simp] theorem State.setClaim_previousSample (n : SourceId) (c : Option Claim) : (s.setClaim n c).previousSample = s.previousSample := rfl
@[simp] theorem State.setClaim_prescale (n : SourceId) (c : Option Claim) : (s.setClaim n c).prescale = s.prescale := rfl
@[simp] theorem State.setClaim_divider (n : SourceId) (c : Option Claim) : (s.setClaim n c).divider = s.divider := rfl
@[simp] theorem State.setClaim_interval (n : SourceId) (c : Option Claim) : (s.setClaim n c).interval = s.interval := rfl
@[simp] theorem State.setClaim_limits (n : SourceId) (c : Option Claim) : (s.setClaim n c).limits = s.limits := rfl
@[simp] theorem State.setClaim_engineQueue (n : SourceId) (c : Option Claim) : (s.setClaim n c).engineQueue = s.engineQueue := rfl
@[simp] theorem State.setClaim_running (n : SourceId) (c : Option Claim) : (s.setClaim n c).running = s.running := rfl
@[simp] theorem State.setClaim_service (n : SourceId) (c : Option Claim) : (s.setClaim n c).service = s.service := rfl
@[simp] theorem State.setClaim_faults (n : SourceId) (c : Option Claim) : (s.setClaim n c).faults = s.faults := rfl
@[simp] theorem State.setClaim_dropped (n : SourceId) (c : Option Claim) : (s.setClaim n c).dropped = s.dropped := rfl
@[simp] theorem State.setClaim_resetNote (n : SourceId) (c : Option Claim) : (s.setClaim n c).resetNote = s.resetNote := rfl
@[simp] theorem State.setClaim_portResets (n : SourceId) (c : Option Claim) : (s.setClaim n c).portResets = s.portResets := rfl
@[simp] theorem State.setClaim_held (n : SourceId) (c : Option Claim) : (s.setClaim n c).held = s.held := rfl
@[simp] theorem State.setClaim_pending (n : SourceId) (c : Option Claim) : (s.setClaim n c).pending = s.pending := rfl

/-! #### State.returnWord -/
@[simp] theorem State.returnWord_sources (p : Port) (w : Word) : (s.returnWord p w).sources = s.sources := rfl
@[simp] theorem State.returnWord_backlog (p : Port) (w : Word) : (s.returnWord p w).backlog = s.backlog := rfl
@[simp] theorem State.returnWord_offers (p : Port) (w : Word) : (s.returnWord p w).offers = s.offers := rfl
@[simp] theorem State.returnWord_claims (p : Port) (w : Word) : (s.returnWord p w).claims = s.claims := rfl
@[simp] theorem State.returnWord_ports (p : Port) (w : Word) : (s.returnWord p w).ports = s.ports := rfl
@[simp] theorem State.returnWord_lease (p : Port) (w : Word) : (s.returnWord p w).lease = s.lease := rfl
@[simp] theorem State.returnWord_attn (p : Port) (w : Word) : (s.returnWord p w).attn = s.attn := rfl
@[simp] theorem State.returnWord_currentSample (p : Port) (w : Word) : (s.returnWord p w).currentSample = s.currentSample := rfl
@[simp] theorem State.returnWord_previousSample (p : Port) (w : Word) : (s.returnWord p w).previousSample = s.previousSample := rfl
@[simp] theorem State.returnWord_prescale (p : Port) (w : Word) : (s.returnWord p w).prescale = s.prescale := rfl
@[simp] theorem State.returnWord_divider (p : Port) (w : Word) : (s.returnWord p w).divider = s.divider := rfl
@[simp] theorem State.returnWord_interval (p : Port) (w : Word) : (s.returnWord p w).interval = s.interval := rfl
@[simp] theorem State.returnWord_limits (p : Port) (w : Word) : (s.returnWord p w).limits = s.limits := rfl
@[simp] theorem State.returnWord_engineQueue (p : Port) (w : Word) : (s.returnWord p w).engineQueue = s.engineQueue := rfl
@[simp] theorem State.returnWord_running (p : Port) (w : Word) : (s.returnWord p w).running = s.running := rfl
@[simp] theorem State.returnWord_service (p : Port) (w : Word) : (s.returnWord p w).service = s.service := rfl
@[simp] theorem State.returnWord_faults (p : Port) (w : Word) : (s.returnWord p w).faults = s.faults := rfl
@[simp] theorem State.returnWord_dropped (p : Port) (w : Word) : (s.returnWord p w).dropped = s.dropped := rfl
@[simp] theorem State.returnWord_resetNote (p : Port) (w : Word) : (s.returnWord p w).resetNote = s.resetNote := rfl
@[simp] theorem State.returnWord_portResets (p : Port) (w : Word) : (s.returnWord p w).portResets = s.portResets := rfl
@[simp] theorem State.returnWord_held (p : Port) (w : Word) : (s.returnWord p w).held = s.held := rfl
@[simp] theorem State.returnWord_pending (p : Port) (w : Word) : (s.returnWord p w).pending = s.pending := rfl

/-! #### State.dropEntry -/
@[simp] theorem State.dropEntry_sources (n : SourceId) : (s.dropEntry n).sources = s.sources := rfl
@[simp] theorem State.dropEntry_offers (n : SourceId) : (s.dropEntry n).offers = s.offers := rfl
@[simp] theorem State.dropEntry_claims (n : SourceId) : (s.dropEntry n).claims = s.claims := rfl
@[simp] theorem State.dropEntry_ports (n : SourceId) : (s.dropEntry n).ports = s.ports := rfl
@[simp] theorem State.dropEntry_lease (n : SourceId) : (s.dropEntry n).lease = s.lease := rfl
@[simp] theorem State.dropEntry_attn (n : SourceId) : (s.dropEntry n).attn = s.attn := rfl
@[simp] theorem State.dropEntry_readWord (n : SourceId) : (s.dropEntry n).readWord = s.readWord := rfl
@[simp] theorem State.dropEntry_currentSample (n : SourceId) : (s.dropEntry n).currentSample = s.currentSample := rfl
@[simp] theorem State.dropEntry_previousSample (n : SourceId) : (s.dropEntry n).previousSample = s.previousSample := rfl
@[simp] theorem State.dropEntry_prescale (n : SourceId) : (s.dropEntry n).prescale = s.prescale := rfl
@[simp] theorem State.dropEntry_divider (n : SourceId) : (s.dropEntry n).divider = s.divider := rfl
@[simp] theorem State.dropEntry_interval (n : SourceId) : (s.dropEntry n).interval = s.interval := rfl
@[simp] theorem State.dropEntry_limits (n : SourceId) : (s.dropEntry n).limits = s.limits := rfl
@[simp] theorem State.dropEntry_engineQueue (n : SourceId) : (s.dropEntry n).engineQueue = s.engineQueue := rfl
@[simp] theorem State.dropEntry_running (n : SourceId) : (s.dropEntry n).running = s.running := rfl
@[simp] theorem State.dropEntry_service (n : SourceId) : (s.dropEntry n).service = s.service := rfl
@[simp] theorem State.dropEntry_faults (n : SourceId) : (s.dropEntry n).faults = s.faults := rfl
@[simp] theorem State.dropEntry_dropped (n : SourceId) : (s.dropEntry n).dropped = s.dropped := rfl
@[simp] theorem State.dropEntry_resetNote (n : SourceId) : (s.dropEntry n).resetNote = s.resetNote := rfl
@[simp] theorem State.dropEntry_portResets (n : SourceId) : (s.dropEntry n).portResets = s.portResets := rfl
@[simp] theorem State.dropEntry_held (n : SourceId) : (s.dropEntry n).held = s.held := rfl
@[simp] theorem State.dropEntry_pending (n : SourceId) : (s.dropEntry n).pending = s.pending := rfl

/-! #### State.withdraw -/
@[simp] theorem State.withdraw_sources (f : Port → Bool) (n : SourceId) : (s.withdraw f n).sources = s.sources := rfl
@[simp] theorem State.withdraw_backlog (f : Port → Bool) (n : SourceId) : (s.withdraw f n).backlog = s.backlog := rfl
@[simp] theorem State.withdraw_claims (f : Port → Bool) (n : SourceId) : (s.withdraw f n).claims = s.claims := rfl
@[simp] theorem State.withdraw_ports (f : Port → Bool) (n : SourceId) : (s.withdraw f n).ports = s.ports := rfl
@[simp] theorem State.withdraw_lease (f : Port → Bool) (n : SourceId) : (s.withdraw f n).lease = s.lease := rfl
@[simp] theorem State.withdraw_attn (f : Port → Bool) (n : SourceId) : (s.withdraw f n).attn = s.attn := rfl
@[simp] theorem State.withdraw_readWord (f : Port → Bool) (n : SourceId) : (s.withdraw f n).readWord = s.readWord := rfl
@[simp] theorem State.withdraw_currentSample (f : Port → Bool) (n : SourceId) : (s.withdraw f n).currentSample = s.currentSample := rfl
@[simp] theorem State.withdraw_previousSample (f : Port → Bool) (n : SourceId) : (s.withdraw f n).previousSample = s.previousSample := rfl
@[simp] theorem State.withdraw_prescale (f : Port → Bool) (n : SourceId) : (s.withdraw f n).prescale = s.prescale := rfl
@[simp] theorem State.withdraw_divider (f : Port → Bool) (n : SourceId) : (s.withdraw f n).divider = s.divider := rfl
@[simp] theorem State.withdraw_interval (f : Port → Bool) (n : SourceId) : (s.withdraw f n).interval = s.interval := rfl
@[simp] theorem State.withdraw_limits (f : Port → Bool) (n : SourceId) : (s.withdraw f n).limits = s.limits := rfl
@[simp] theorem State.withdraw_engineQueue (f : Port → Bool) (n : SourceId) : (s.withdraw f n).engineQueue = s.engineQueue := rfl
@[simp] theorem State.withdraw_running (f : Port → Bool) (n : SourceId) : (s.withdraw f n).running = s.running := rfl
@[simp] theorem State.withdraw_service (f : Port → Bool) (n : SourceId) : (s.withdraw f n).service = s.service := rfl
@[simp] theorem State.withdraw_faults (f : Port → Bool) (n : SourceId) : (s.withdraw f n).faults = s.faults := rfl
@[simp] theorem State.withdraw_dropped (f : Port → Bool) (n : SourceId) : (s.withdraw f n).dropped = s.dropped := rfl
@[simp] theorem State.withdraw_resetNote (f : Port → Bool) (n : SourceId) : (s.withdraw f n).resetNote = s.resetNote := rfl
@[simp] theorem State.withdraw_portResets (f : Port → Bool) (n : SourceId) : (s.withdraw f n).portResets = s.portResets := rfl
@[simp] theorem State.withdraw_held (f : Port → Bool) (n : SourceId) : (s.withdraw f n).held = s.held := rfl
@[simp] theorem State.withdraw_pending (f : Port → Bool) (n : SourceId) : (s.withdraw f n).pending = s.pending := rfl

/-! #### State.updateAttention -/
@[simp] theorem State.updateAttention_sources : s.updateAttention.sources = s.sources := rfl
@[simp] theorem State.updateAttention_backlog : s.updateAttention.backlog = s.backlog := rfl
@[simp] theorem State.updateAttention_offers : s.updateAttention.offers = s.offers := rfl
@[simp] theorem State.updateAttention_claims : s.updateAttention.claims = s.claims := rfl
@[simp] theorem State.updateAttention_ports : s.updateAttention.ports = s.ports := rfl
@[simp] theorem State.updateAttention_lease : s.updateAttention.lease = s.lease := rfl
@[simp] theorem State.updateAttention_readWord : s.updateAttention.readWord = s.readWord := rfl
@[simp] theorem State.updateAttention_currentSample : s.updateAttention.currentSample = s.currentSample := rfl
@[simp] theorem State.updateAttention_previousSample : s.updateAttention.previousSample = s.previousSample := rfl
@[simp] theorem State.updateAttention_prescale : s.updateAttention.prescale = s.prescale := rfl
@[simp] theorem State.updateAttention_divider : s.updateAttention.divider = s.divider := rfl
@[simp] theorem State.updateAttention_interval : s.updateAttention.interval = s.interval := rfl
@[simp] theorem State.updateAttention_limits : s.updateAttention.limits = s.limits := rfl
@[simp] theorem State.updateAttention_engineQueue : s.updateAttention.engineQueue = s.engineQueue := rfl
@[simp] theorem State.updateAttention_running : s.updateAttention.running = s.running := rfl
@[simp] theorem State.updateAttention_service : s.updateAttention.service = s.service := rfl
@[simp] theorem State.updateAttention_faults : s.updateAttention.faults = s.faults := rfl
@[simp] theorem State.updateAttention_dropped : s.updateAttention.dropped = s.dropped := rfl
@[simp] theorem State.updateAttention_resetNote : s.updateAttention.resetNote = s.resetNote := rfl
@[simp] theorem State.updateAttention_portResets : s.updateAttention.portResets = s.portResets := rfl
@[simp] theorem State.updateAttention_held : s.updateAttention.held = s.held := rfl
@[simp] theorem State.updateAttention_pending : s.updateAttention.pending = s.pending := rfl

/-! #### State.setPortReset -/
@[simp] theorem State.setPortReset_sources (p : Port) (b : Bool) : (s.setPortReset p b).sources = s.sources := rfl
@[simp] theorem State.setPortReset_backlog (p : Port) (b : Bool) : (s.setPortReset p b).backlog = s.backlog := rfl
@[simp] theorem State.setPortReset_offers (p : Port) (b : Bool) : (s.setPortReset p b).offers = s.offers := rfl
@[simp] theorem State.setPortReset_claims (p : Port) (b : Bool) : (s.setPortReset p b).claims = s.claims := rfl
@[simp] theorem State.setPortReset_ports (p : Port) (b : Bool) : (s.setPortReset p b).ports = s.ports := rfl
@[simp] theorem State.setPortReset_lease (p : Port) (b : Bool) : (s.setPortReset p b).lease = s.lease := rfl
@[simp] theorem State.setPortReset_attn (p : Port) (b : Bool) : (s.setPortReset p b).attn = s.attn := rfl
@[simp] theorem State.setPortReset_readWord (p : Port) (b : Bool) : (s.setPortReset p b).readWord = s.readWord := rfl
@[simp] theorem State.setPortReset_currentSample (p : Port) (b : Bool) : (s.setPortReset p b).currentSample = s.currentSample := rfl
@[simp] theorem State.setPortReset_previousSample (p : Port) (b : Bool) : (s.setPortReset p b).previousSample = s.previousSample := rfl
@[simp] theorem State.setPortReset_prescale (p : Port) (b : Bool) : (s.setPortReset p b).prescale = s.prescale := rfl
@[simp] theorem State.setPortReset_divider (p : Port) (b : Bool) : (s.setPortReset p b).divider = s.divider := rfl
@[simp] theorem State.setPortReset_interval (p : Port) (b : Bool) : (s.setPortReset p b).interval = s.interval := rfl
@[simp] theorem State.setPortReset_limits (p : Port) (b : Bool) : (s.setPortReset p b).limits = s.limits := rfl
@[simp] theorem State.setPortReset_engineQueue (p : Port) (b : Bool) : (s.setPortReset p b).engineQueue = s.engineQueue := rfl
@[simp] theorem State.setPortReset_running (p : Port) (b : Bool) : (s.setPortReset p b).running = s.running := rfl
@[simp] theorem State.setPortReset_service (p : Port) (b : Bool) : (s.setPortReset p b).service = s.service := rfl
@[simp] theorem State.setPortReset_faults (p : Port) (b : Bool) : (s.setPortReset p b).faults = s.faults := rfl
@[simp] theorem State.setPortReset_dropped (p : Port) (b : Bool) : (s.setPortReset p b).dropped = s.dropped := rfl
@[simp] theorem State.setPortReset_resetNote (p : Port) (b : Bool) : (s.setPortReset p b).resetNote = s.resetNote := rfl
@[simp] theorem State.setPortReset_held (p : Port) (b : Bool) : (s.setPortReset p b).held = s.held := rfl
@[simp] theorem State.setPortReset_pending (p : Port) (b : Bool) : (s.setPortReset p b).pending = s.pending := rfl

/-! #### State.letThrough -/
@[simp] theorem State.letThrough_sources : s.letThrough.sources = s.sources := rfl
@[simp] theorem State.letThrough_backlog : s.letThrough.backlog = s.backlog := rfl
@[simp] theorem State.letThrough_offers : s.letThrough.offers = s.offers := rfl
@[simp] theorem State.letThrough_claims : s.letThrough.claims = s.claims := rfl
@[simp] theorem State.letThrough_ports : s.letThrough.ports = s.ports := rfl
@[simp] theorem State.letThrough_lease : s.letThrough.lease = s.lease := rfl
@[simp] theorem State.letThrough_attn : s.letThrough.attn = s.attn := rfl
@[simp] theorem State.letThrough_readWord : s.letThrough.readWord = s.readWord := rfl
@[simp] theorem State.letThrough_currentSample : s.letThrough.currentSample = s.currentSample := rfl
@[simp] theorem State.letThrough_previousSample : s.letThrough.previousSample = s.previousSample := rfl
@[simp] theorem State.letThrough_prescale : s.letThrough.prescale = s.prescale := rfl
@[simp] theorem State.letThrough_divider : s.letThrough.divider = s.divider := rfl
@[simp] theorem State.letThrough_interval : s.letThrough.interval = s.interval := rfl
@[simp] theorem State.letThrough_limits : s.letThrough.limits = s.limits := rfl
@[simp] theorem State.letThrough_engineQueue : s.letThrough.engineQueue = s.engineQueue := rfl
@[simp] theorem State.letThrough_running : s.letThrough.running = s.running := rfl
@[simp] theorem State.letThrough_service : s.letThrough.service = s.service := rfl
@[simp] theorem State.letThrough_faults : s.letThrough.faults = s.faults := rfl
@[simp] theorem State.letThrough_dropped : s.letThrough.dropped = s.dropped := rfl
@[simp] theorem State.letThrough_resetNote : s.letThrough.resetNote = s.resetNote := rfl
@[simp] theorem State.letThrough_portResets : s.letThrough.portResets = s.portResets := rfl

/-! #### Tables read after an update of another table -/
@[simp] theorem State.setSource_port (n : SourceId) (e : SourceEntry) (r : Port) : (s.setSource n e).port r = s.port r := rfl
@[simp] theorem State.setSource_queue (n : SourceId) (e : SourceEntry) (r : Port) : (s.setSource n e).queue r = s.queue r := rfl
@[simp] theorem State.setSource_claimOf (n : SourceId) (e : SourceEntry) (m : SourceId) : (s.setSource n e).claimOf m = s.claimOf m := rfl
@[simp] theorem State.modPort_source (p : Port) (f : PortRegs → PortRegs) (m : SourceId) : (s.modPort p f).source m = s.source m := rfl
@[simp] theorem State.modPort_queue (p : Port) (f : PortRegs → PortRegs) (r : Port) : (s.modPort p f).queue r = s.queue r := rfl
@[simp] theorem State.modPort_claimOf (p : Port) (f : PortRegs → PortRegs) (m : SourceId) : (s.modPort p f).claimOf m = s.claimOf m := rfl
@[simp] theorem State.setResult_source (p : Port) (c : Result) (m : SourceId) : (s.setResult p c).source m = s.source m := rfl
@[simp] theorem State.setResult_queue (p : Port) (c : Result) (r : Port) : (s.setResult p c).queue r = s.queue r := rfl
@[simp] theorem State.setResult_claimOf (p : Port) (c : Result) (m : SourceId) : (s.setResult p c).claimOf m = s.claimOf m := rfl
@[simp] theorem State.setQueue_source (p : Port) (q : List Offer) (m : SourceId) : (s.setQueue p q).source m = s.source m := rfl
@[simp] theorem State.setQueue_port (p : Port) (q : List Offer) (r : Port) : (s.setQueue p q).port r = s.port r := rfl
@[simp] theorem State.setQueue_claimOf (p : Port) (q : List Offer) (m : SourceId) : (s.setQueue p q).claimOf m = s.claimOf m := rfl
@[simp] theorem State.putOffer_source (p : Port) (o : Offer) (m : SourceId) : (s.putOffer p o).source m = s.source m := rfl
@[simp] theorem State.putOffer_port (p : Port) (o : Offer) (r : Port) : (s.putOffer p o).port r = s.port r := rfl
@[simp] theorem State.putOffer_claimOf (p : Port) (o : Offer) (m : SourceId) : (s.putOffer p o).claimOf m = s.claimOf m := rfl
@[simp] theorem State.setClaim_source (n : SourceId) (c : Option Claim) (m : SourceId) : (s.setClaim n c).source m = s.source m := rfl
@[simp] theorem State.setClaim_port (n : SourceId) (c : Option Claim) (r : Port) : (s.setClaim n c).port r = s.port r := rfl
@[simp] theorem State.setClaim_queue (n : SourceId) (c : Option Claim) (r : Port) : (s.setClaim n c).queue r = s.queue r := rfl
@[simp] theorem State.returnWord_source (p : Port) (w : Word) (m : SourceId) : (s.returnWord p w).source m = s.source m := rfl
@[simp] theorem State.returnWord_port (p : Port) (w : Word) (r : Port) : (s.returnWord p w).port r = s.port r := rfl
@[simp] theorem State.returnWord_queue (p : Port) (w : Word) (r : Port) : (s.returnWord p w).queue r = s.queue r := rfl
@[simp] theorem State.returnWord_claimOf (p : Port) (w : Word) (m : SourceId) : (s.returnWord p w).claimOf m = s.claimOf m := rfl
@[simp] theorem State.dropEntry_source (n : SourceId) (m : SourceId) : (s.dropEntry n).source m = s.source m := rfl
@[simp] theorem State.dropEntry_port (n : SourceId) (r : Port) : (s.dropEntry n).port r = s.port r := rfl
@[simp] theorem State.dropEntry_queue (n : SourceId) (r : Port) : (s.dropEntry n).queue r = s.queue r := rfl
@[simp] theorem State.dropEntry_claimOf (n : SourceId) (m : SourceId) : (s.dropEntry n).claimOf m = s.claimOf m := rfl
@[simp] theorem State.withdraw_source (f : Port → Bool) (n : SourceId) (m : SourceId) : (s.withdraw f n).source m = s.source m := rfl
@[simp] theorem State.withdraw_port (f : Port → Bool) (n : SourceId) (r : Port) : (s.withdraw f n).port r = s.port r := rfl
@[simp] theorem State.withdraw_claimOf (f : Port → Bool) (n : SourceId) (m : SourceId) : (s.withdraw f n).claimOf m = s.claimOf m := rfl
@[simp] theorem State.updateAttention_source (m : SourceId) : s.updateAttention.source m = s.source m := rfl
@[simp] theorem State.updateAttention_port (r : Port) : s.updateAttention.port r = s.port r := rfl
@[simp] theorem State.updateAttention_queue (r : Port) : s.updateAttention.queue r = s.queue r := rfl
@[simp] theorem State.updateAttention_claimOf (m : SourceId) : s.updateAttention.claimOf m = s.claimOf m := rfl
@[simp] theorem State.setPortReset_source (p : Port) (b : Bool) (m : SourceId) : (s.setPortReset p b).source m = s.source m := rfl
@[simp] theorem State.setPortReset_port (p : Port) (b : Bool) (r : Port) : (s.setPortReset p b).port r = s.port r := rfl
@[simp] theorem State.setPortReset_queue (p : Port) (b : Bool) (r : Port) : (s.setPortReset p b).queue r = s.queue r := rfl
@[simp] theorem State.setPortReset_claimOf (p : Port) (b : Bool) (m : SourceId) : (s.setPortReset p b).claimOf m = s.claimOf m := rfl
@[simp] theorem State.letThrough_source (m : SourceId) : s.letThrough.source m = s.source m := rfl
@[simp] theorem State.letThrough_port (r : Port) : s.letThrough.port r = s.port r := rfl
@[simp] theorem State.letThrough_queue (r : Port) : s.letThrough.queue r = s.queue r := rfl
@[simp] theorem State.letThrough_claimOf (m : SourceId) : s.letThrough.claimOf m = s.claimOf m := rfl

/-! #### A table read after its own update -/

@[simp] theorem State.modSource_eq (n : SourceId) (f : SourceEntry → SourceEntry) :
    s.modSource n f = s.setSource n (f (s.source n)) := rfl

theorem State.setResult_eq (p : Port) (c : Result) : s.setResult p c = s.modPort p fun r => { r with result := c } := rfl

theorem State.source_setSource (n m : SourceId) (e : SourceEntry) :
    (s.setSource n e).source m = if n = m then e else s.source m := by
  simp only [State.source, State.setSource, Fin.getElem_fin, Vector.getElem_set, Fin.ext_iff]

@[simp] theorem State.source_setSource_self (n : SourceId) (e : SourceEntry) : (s.setSource n e).source n = e := by
  simp [State.source_setSource]

theorem State.source_setSource_ne (n m : SourceId) (e : SourceEntry) (h : m ≠ n) :
    (s.setSource n e).source m = s.source m := by
  simp [State.source_setSource, Ne.symm h]

theorem State.port_modPort (p q : Port) (f : PortRegs → PortRegs) :
    (s.modPort p f).port q = if p = q then f (s.port p) else s.port q := by
  simp only [State.port, State.modPort, Fin.getElem_fin, Vector.getElem_set, Fin.ext_iff]

@[simp] theorem State.port_modPort_self (p : Port) (f : PortRegs → PortRegs) :
    (s.modPort p f).port p = f (s.port p) := by
  simp [State.port_modPort]

theorem State.port_modPort_ne (p q : Port) (f : PortRegs → PortRegs) (h : q ≠ p) :
    (s.modPort p f).port q = s.port q := by
  simp [State.port_modPort, Ne.symm h]

@[simp] theorem State.port_setResult_self (p : Port) (c : Result) :
    (s.setResult p c).port p = { s.port p with result := c } := by
  simp [State.setResult]

theorem State.port_setResult_ne (p q : Port) (c : Result) (h : q ≠ p) : (s.setResult p c).port q = s.port q :=
  State.port_modPort_ne s p q _ h

@[simp] theorem State.port_setResult_state (p q : Port) (c : Result) :
    ((s.setResult p c).port q).state = (s.port q).state := by
  by_cases h : q = p
  · subst h; simp
  · rw [State.port_setResult_ne s p q c h]

theorem State.queue_setQueue (p r : Port) (q : List Offer) :
    (s.setQueue p q).queue r = if p = r then q else s.queue r := by
  simp only [State.queue, State.setQueue, Fin.getElem_fin, Vector.getElem_set, Fin.ext_iff]

@[simp] theorem State.queue_setQueue_self (p : Port) (q : List Offer) : (s.setQueue p q).queue p = q := by
  simp [State.queue_setQueue]

theorem State.queue_setQueue_ne (p r : Port) (q : List Offer) (h : r ≠ p) :
    (s.setQueue p q).queue r = s.queue r := by
  simp [State.queue_setQueue, Ne.symm h]

theorem State.queue_withdraw (f : Port → Bool) (n : SourceId) (r : Port) :
    (s.withdraw f n).queue r = if f r then (s.queue r).filter (fun o => o.src != n) else s.queue r := by
  fin_cases r <;> rfl

theorem State.claimOf_setClaim (n m : SourceId) (c : Option Claim) :
    (s.setClaim n c).claimOf m = if n = m then c else s.claimOf m := by
  simp only [State.claimOf, State.setClaim, Fin.getElem_fin, Vector.getElem_set, Fin.ext_iff]

@[simp] theorem State.claimOf_setClaim_self (n : SourceId) (c : Option Claim) : (s.setClaim n c).claimOf n = c := by
  simp [State.claimOf_setClaim]

theorem State.claimOf_setClaim_ne (n m : SourceId) (c : Option Claim) (h : m ≠ n) :
    (s.setClaim n c).claimOf m = s.claimOf m := by
  simp [State.claimOf_setClaim, Ne.symm h]

theorem State.attn_updateAttention (p : Port) : s.updateAttention.attn[p] = s.attention p := by
  fin_cases p <;> rfl

theorem State.portResets_setPortReset (p q : Port) (b : Bool) :
    (s.setPortReset p b).portResets[q] = if p = q then b else s.portResets[q] := by
  simp only [State.setPortReset, Fin.getElem_fin, Vector.getElem_set, Fin.ext_iff]

@[simp] theorem State.portResets_setPortReset_self (p : Port) (b : Bool) :
    (s.setPortReset p b).portResets[p] = b := by
  rw [State.portResets_setPortReset, if_pos rfl]

theorem State.portResets_setPortReset_ne (p q : Port) (b : Bool) (h : q ≠ p) :
    (s.setPortReset p b).portResets[q] = s.portResets[q] := by
  rw [State.portResets_setPortReset, if_neg (Ne.symm h)]

@[simp] theorem State.attention_updateAttention (p : Port) : s.updateAttention.attention p = s.attention p := rfl

end Sys2Proof.Machine
end

