-- ==== Sys2Proof/Laws/Ops.lean ====
section
/-! SUPPORT. What each shared operation can do, said once: the order of the bands, fault records, backlog entries, the end
of an occurrence, the removal of a claim, and the admission of an access. -/

namespace Sys2Proof.Machine

/-! ### Class bands -/

theorem insertBack_perm {α : Type} (cls : α → SourceClass) (a : α) (l : List α) : (insertBack cls a l).Perm (a :: l) := by
  induction l with
  | nil => exact .refl _
  | cons x xs ih =>
    unfold insertBack
    split
    · exact (ih.cons x).trans (List.Perm.swap a x xs)
    · exact .refl _

theorem insertFront_perm {α : Type} (cls : α → SourceClass) (a : α) (l : List α) : (insertFront cls a l).Perm (a :: l) := by
  induction l with
  | nil => exact .refl _
  | cons x xs ih =>
    unfold insertFront
    split
    · exact (ih.cons x).trans (List.Perm.swap a x xs)
    · exact .refl _

theorem mem_insertBack {α : Type} (cls : α → SourceClass) (a x : α) (l : List α) :
    x ∈ insertBack cls a l ↔ x = a ∨ x ∈ l := by
  rw [(insertBack_perm cls a l).mem_iff, List.mem_cons]

theorem mem_insertFront {α : Type} (cls : α → SourceClass) (a x : α) (l : List α) :
    x ∈ insertFront cls a l ↔ x = a ∨ x ∈ l := by
  rw [(insertFront_perm cls a l).mem_iff, List.mem_cons]

theorem length_insertBack {α : Type} (cls : α → SourceClass) (a : α) (l : List α) :
    (insertBack cls a l).length = l.length + 1 := (insertBack_perm cls a l).length_eq

theorem length_insertFront {α : Type} (cls : α → SourceClass) (a : α) (l : List α) :
    (insertFront cls a l).length = l.length + 1 := (insertFront_perm cls a l).length_eq

/-- An insertion at the back of a band keeps the bands in order (R46, R72). -/
theorem insertBack_ordered {α : Type} (cls : α → SourceClass) (a : α) (l : List α)
    (h : l.Pairwise fun x y => cls y ≤ cls x) : (insertBack cls a l).Pairwise fun x y => cls y ≤ cls x := by
  induction l with
  | nil => simp [insertBack]
  | cons x xs ih =>
    obtain ⟨hx, hxs⟩ := List.pairwise_cons.mp h
    unfold insertBack
    split
    · rename_i hle
      refine List.pairwise_cons.mpr ⟨fun y hy => ?_, ih hxs⟩
      rcases (mem_insertBack cls a y xs).mp hy with rfl | hy
      · exact hle
      · exact hx y hy
    · rename_i hle
      have hlt : cls x ≤ cls a := le_of_lt (not_le.mp hle)
      refine List.pairwise_cons.mpr ⟨fun y hy => ?_, h⟩
      rcases List.mem_cons.mp hy with rfl | hy
      · exact hlt
      · exact (hx y hy).trans hlt

/-- An insertion at the front of a band keeps the bands in order (R46, R72). -/
theorem insertFront_ordered {α : Type} (cls : α → SourceClass) (a : α) (l : List α)
    (h : l.Pairwise fun x y => cls y ≤ cls x) : (insertFront cls a l).Pairwise fun x y => cls y ≤ cls x := by
  induction l with
  | nil => simp [insertFront]
  | cons x xs ih =>
    obtain ⟨hx, hxs⟩ := List.pairwise_cons.mp h
    unfold insertFront
    split
    · rename_i hlt
      refine List.pairwise_cons.mpr ⟨fun y hy => ?_, ih hxs⟩
      rcases (mem_insertFront cls a y xs).mp hy with rfl | hy
      · exact le_of_lt hlt
      · exact hx y hy
    · rename_i hlt
      have hle : cls x ≤ cls a := not_lt.mp hlt
      refine List.pairwise_cons.mpr ⟨fun y hy => ?_, h⟩
      rcases List.mem_cons.mp hy with rfl | hy
      · exact hle
      · exact (hx y hy).trans hle

variable (s : State)

/-! ### Fault records -/

/-- A record handed to a queue with room is stored at the back with the dropped count, which returns to 0 (R175). -/
theorem State.handRecord_stored (r : FaultRecord) (h : s.faults.length < Config.faultRoom) :
    s.handRecord r = { s with faults := s.faults ++ [{ r with dropped := s.dropped }], dropped := 0 } := by
  simp [State.handRecord, h]

/-- A record handed to a full queue is dropped and counted (R175). -/
theorem State.handRecord_dropped (r : FaultRecord) (h : Config.faultRoom ≤ s.faults.length) :
    s.handRecord r = { s with dropped := satAdd s.dropped 1 } := by
  simp [State.handRecord, Nat.not_lt.mpr h]

/-- A handed record never takes the queue beyond its room (R174). -/
theorem State.handRecord_room (r : FaultRecord) (h : s.faults.length ≤ Config.faultRoom) :
    (s.handRecord r).faults.length ≤ Config.faultRoom := by
  unfold State.handRecord
  split
  · simpa using ‹_›
  · exact h

/-- The records already stored stay in front (R174). -/
theorem State.handRecord_prefix (r : FaultRecord) : s.faults <+: (s.handRecord r).faults := by
  unfold State.handRecord
  split
  · exact ⟨_, rfl⟩
  · exact ⟨[], by simp⟩

@[simp] theorem State.handRecord_sources (r : FaultRecord) : (s.handRecord r).sources = s.sources := by
  unfold State.handRecord; split <;> rfl
@[simp] theorem State.handRecord_backlog (r : FaultRecord) : (s.handRecord r).backlog = s.backlog := by
  unfold State.handRecord; split <;> rfl
@[simp] theorem State.handRecord_offers (r : FaultRecord) : (s.handRecord r).offers = s.offers := by
  unfold State.handRecord; split <;> rfl
@[simp] theorem State.handRecord_claims (r : FaultRecord) : (s.handRecord r).claims = s.claims := by
  unfold State.handRecord; split <;> rfl
@[simp] theorem State.handRecord_ports (r : FaultRecord) : (s.handRecord r).ports = s.ports := by
  unfold State.handRecord; split <;> rfl
@[simp] theorem State.handRecord_lease (r : FaultRecord) : (s.handRecord r).lease = s.lease := by
  unfold State.handRecord; split <;> rfl
@[simp] theorem State.handRecord_attn (r : FaultRecord) : (s.handRecord r).attn = s.attn := by
  unfold State.handRecord; split <;> rfl
@[simp] theorem State.handRecord_readWord (r : FaultRecord) : (s.handRecord r).readWord = s.readWord := by
  unfold State.handRecord; split <;> rfl
@[simp] theorem State.handRecord_currentSample (r : FaultRecord) : (s.handRecord r).currentSample = s.currentSample := by
  unfold State.handRecord; split <;> rfl
@[simp] theorem State.handRecord_previousSample (r : FaultRecord) : (s.handRecord r).previousSample = s.previousSample := by
  unfold State.handRecord; split <;> rfl
@[simp] theorem State.handRecord_prescale (r : FaultRecord) : (s.handRecord r).prescale = s.prescale := by
  unfold State.handRecord; split <;> rfl
@[simp] theorem State.handRecord_divider (r : FaultRecord) : (s.handRecord r).divider = s.divider := by
  unfold State.handRecord; split <;> rfl
@[simp] theorem State.handRecord_interval (r : FaultRecord) : (s.handRecord r).interval = s.interval := by
  unfold State.handRecord; split <;> rfl
@[simp] theorem State.handRecord_limits (r : FaultRecord) : (s.handRecord r).limits = s.limits := by
  unfold State.handRecord; split <;> rfl
@[simp] theorem State.handRecord_engineQueue (r : FaultRecord) : (s.handRecord r).engineQueue = s.engineQueue := by
  unfold State.handRecord; split <;> rfl
@[simp] theorem State.handRecord_running (r : FaultRecord) : (s.handRecord r).running = s.running := by
  unfold State.handRecord; split <;> rfl
@[simp] theorem State.handRecord_service (r : FaultRecord) : (s.handRecord r).service = s.service := by
  unfold State.handRecord; split <;> rfl
@[simp] theorem State.handRecord_resetNote (r : FaultRecord) : (s.handRecord r).resetNote = s.resetNote := by
  unfold State.handRecord; split <;> rfl
@[simp] theorem State.handRecord_portResets (r : FaultRecord) : (s.handRecord r).portResets = s.portResets := by
  unfold State.handRecord; split <;> rfl
@[simp] theorem State.handRecord_held (r : FaultRecord) : (s.handRecord r).held = s.held := by
  unfold State.handRecord; split <;> rfl
@[simp] theorem State.handRecord_pending (r : FaultRecord) : (s.handRecord r).pending = s.pending := by
  unfold State.handRecord; split <;> rfl
@[simp] theorem State.handRecord_source (r : FaultRecord) (m : SourceId) : (s.handRecord r).source m = s.source m := by
  simp only [State.source, State.handRecord_sources]
@[simp] theorem State.handRecord_port (r : FaultRecord) (q : Port) : (s.handRecord r).port q = s.port q := by
  simp only [State.port, State.handRecord_ports]
@[simp] theorem State.handRecord_queue (r : FaultRecord) (q : Port) : (s.handRecord r).queue q = s.queue q := by
  simp only [State.queue, State.handRecord_offers]
@[simp] theorem State.handRecord_claimOf (r : FaultRecord) (m : SourceId) : (s.handRecord r).claimOf m = s.claimOf m := by
  simp only [State.claimOf, State.handRecord_claims]

/-! ### Backlog entries -/

@[simp] theorem State.unservedCheck_backlog (n : SourceId) : (s.unservedCheck n).backlog = s.backlog := by
  unfold State.unservedCheck; split <;> simp
@[simp] theorem State.unservedCheck_offers (n : SourceId) : (s.unservedCheck n).offers = s.offers := by
  unfold State.unservedCheck; split <;> simp
@[simp] theorem State.unservedCheck_claims (n : SourceId) : (s.unservedCheck n).claims = s.claims := by
  unfold State.unservedCheck; split <;> simp
@[simp] theorem State.unservedCheck_ports (n : SourceId) : (s.unservedCheck n).ports = s.ports := by
  unfold State.unservedCheck; split <;> simp
@[simp] theorem State.unservedCheck_lease (n : SourceId) : (s.unservedCheck n).lease = s.lease := by
  unfold State.unservedCheck; split <;> simp
@[simp] theorem State.unservedCheck_attn (n : SourceId) : (s.unservedCheck n).attn = s.attn := by
  unfold State.unservedCheck; split <;> simp
@[simp] theorem State.unservedCheck_readWord (n : SourceId) : (s.unservedCheck n).readWord = s.readWord := by
  unfold State.unservedCheck; split <;> simp
@[simp] theorem State.unservedCheck_currentSample (n : SourceId) : (s.unservedCheck n).currentSample = s.currentSample := by
  unfold State.unservedCheck; split <;> simp
@[simp] theorem State.unservedCheck_previousSample (n : SourceId) : (s.unservedCheck n).previousSample = s.previousSample := by
  unfold State.unservedCheck; split <;> simp
@[simp] theorem State.unservedCheck_prescale (n : SourceId) : (s.unservedCheck n).prescale = s.prescale := by
  unfold State.unservedCheck; split <;> simp
@[simp] theorem State.unservedCheck_divider (n : SourceId) : (s.unservedCheck n).divider = s.divider := by
  unfold State.unservedCheck; split <;> simp
@[simp] theorem State.unservedCheck_interval (n : SourceId) : (s.unservedCheck n).interval = s.interval := by
  unfold State.unservedCheck; split <;> simp
@[simp] theorem State.unservedCheck_limits (n : SourceId) : (s.unservedCheck n).limits = s.limits := by
  unfold State.unservedCheck; split <;> simp
@[simp] theorem State.unservedCheck_engineQueue (n : SourceId) : (s.unservedCheck n).engineQueue = s.engineQueue := by
  unfold State.unservedCheck; split <;> simp
@[simp] theorem State.unservedCheck_running (n : SourceId) : (s.unservedCheck n).running = s.running := by
  unfold State.unservedCheck; split <;> simp
@[simp] theorem State.unservedCheck_service (n : SourceId) : (s.unservedCheck n).service = s.service := by
  unfold State.unservedCheck; split <;> simp
@[simp] theorem State.unservedCheck_resetNote (n : SourceId) : (s.unservedCheck n).resetNote = s.resetNote := by
  unfold State.unservedCheck; split <;> simp
@[simp] theorem State.unservedCheck_portResets (n : SourceId) : (s.unservedCheck n).portResets = s.portResets := by
  unfold State.unservedCheck; split <;> simp
@[simp] theorem State.unservedCheck_held (n : SourceId) : (s.unservedCheck n).held = s.held := by
  unfold State.unservedCheck; split <;> simp
@[simp] theorem State.unservedCheck_pending (n : SourceId) : (s.unservedCheck n).pending = s.pending := by
  unfold State.unservedCheck; split <;> simp
@[simp] theorem State.unservedCheck_port (n : SourceId) (q : Port) : (s.unservedCheck n).port q = s.port q := by
  simp only [State.port, State.unservedCheck_ports]
@[simp] theorem State.unservedCheck_queue (n : SourceId) (q : Port) : (s.unservedCheck n).queue q = s.queue q := by
  simp only [State.queue, State.unservedCheck_offers]
@[simp] theorem State.unservedCheck_claimOf (n : SourceId) (m : SourceId) : (s.unservedCheck n).claimOf m = s.claimOf m := by
  simp only [State.claimOf, State.unservedCheck_claims]

/-- The UNSERVED check changes no source entry but for setting the unserved mark of the source checked (R63). -/
theorem State.source_unservedCheck (n m : SourceId) :
    (s.unservedCheck n).source m =
      if n = m then { s.source n with unserved := (s.source n).unserved ||
        (!(s.source n).engineBound && s.noEligibleOnline n) } else s.source m := by
  unfold State.unservedCheck
  generalize hd : (!(s.source n).engineBound && s.noEligibleOnline n) = due
  by_cases h : n = m
  · subst h
    cases due <;> cases hu : (s.source n).unserved <;>
      simp [State.modSource] <;> (cases hs : s.source n; simp_all)
  · split <;> simp [h, State.modSource, State.source_setSource]

@[simp] theorem State.enterBack_offers (n : SourceId) : (s.enterBack n).offers = s.offers := by
  simp [State.enterBack]
@[simp] theorem State.enterBack_claims (n : SourceId) : (s.enterBack n).claims = s.claims := by
  simp [State.enterBack]
@[simp] theorem State.enterBack_ports (n : SourceId) : (s.enterBack n).ports = s.ports := by
  simp [State.enterBack]
@[simp] theorem State.enterBack_lease (n : SourceId) : (s.enterBack n).lease = s.lease := by
  simp [State.enterBack]
@[simp] theorem State.enterBack_attn (n : SourceId) : (s.enterBack n).attn = s.attn := by
  simp [State.enterBack]
@[simp] theorem State.enterBack_readWord (n : SourceId) : (s.enterBack n).readWord = s.readWord := by
  simp [State.enterBack]
@[simp] theorem State.enterBack_currentSample (n : SourceId) : (s.enterBack n).currentSample = s.currentSample := by
  simp [State.enterBack]
@[simp] theorem State.enterBack_previousSample (n : SourceId) : (s.enterBack n).previousSample = s.previousSample := by
  simp [State.enterBack]
@[simp] theorem State.enterBack_prescale (n : SourceId) : (s.enterBack n).prescale = s.prescale := by
  simp [State.enterBack]
@[simp] theorem State.enterBack_divider (n : SourceId) : (s.enterBack n).divider = s.divider := by
  simp [State.enterBack]
@[simp] theorem State.enterBack_interval (n : SourceId) : (s.enterBack n).interval = s.interval := by
  simp [State.enterBack]
@[simp] theorem State.enterBack_limits (n : SourceId) : (s.enterBack n).limits = s.limits := by
  simp [State.enterBack]
@[simp] theorem State.enterBack_engineQueue (n : SourceId) : (s.enterBack n).engineQueue = s.engineQueue := by
  simp [State.enterBack]
@[simp] theorem State.enterBack_running (n : SourceId) : (s.enterBack n).running = s.running := by
  simp [State.enterBack]
@[simp] theorem State.enterBack_service (n : SourceId) : (s.enterBack n).service = s.service := by
  simp [State.enterBack]
@[simp] theorem State.enterBack_resetNote (n : SourceId) : (s.enterBack n).resetNote = s.resetNote := by
  simp [State.enterBack]
@[simp] theorem State.enterBack_portResets (n : SourceId) : (s.enterBack n).portResets = s.portResets := by
  simp [State.enterBack]
@[simp] theorem State.enterBack_held (n : SourceId) : (s.enterBack n).held = s.held := by
  simp [State.enterBack]
@[simp] theorem State.enterBack_pending (n : SourceId) : (s.enterBack n).pending = s.pending := by
  simp [State.enterBack]
@[simp] theorem State.enterBack_port (n : SourceId) (q : Port) : (s.enterBack n).port q = s.port q := by
  simp only [State.port, State.enterBack_ports]
@[simp] theorem State.enterBack_queue (n : SourceId) (q : Port) : (s.enterBack n).queue q = s.queue q := by
  simp only [State.queue, State.enterBack_offers]
@[simp] theorem State.enterBack_claimOf (n : SourceId) (m : SourceId) : (s.enterBack n).claimOf m = s.claimOf m := by
  simp only [State.claimOf, State.enterBack_claims]

/-- An entry at the back of its band; the UNSERVED check leaves the backlog as it is (R47). -/
@[simp] theorem State.enterBack_backlog (n : SourceId) :
    (s.enterBack n).backlog = insertBack BacklogEntry.cls (s.entryFor n) s.backlog := by
  simp [State.enterBack]

@[simp] theorem State.foldl_unservedCheck_backlog (ns : List SourceId) : (ns.foldl State.unservedCheck s).backlog = s.backlog := by
  induction ns generalizing s with
  | nil => rfl
  | cons n ns ih => simp [ih]
@[simp] theorem State.foldl_unservedCheck_offers (ns : List SourceId) : (ns.foldl State.unservedCheck s).offers = s.offers := by
  induction ns generalizing s with
  | nil => rfl
  | cons n ns ih => simp [ih]
@[simp] theorem State.foldl_unservedCheck_claims (ns : List SourceId) : (ns.foldl State.unservedCheck s).claims = s.claims := by
  induction ns generalizing s with
  | nil => rfl
  | cons n ns ih => simp [ih]
@[simp] theorem State.foldl_unservedCheck_ports (ns : List SourceId) : (ns.foldl State.unservedCheck s).ports = s.ports := by
  induction ns generalizing s with
  | nil => rfl
  | cons n ns ih => simp [ih]
@[simp] theorem State.foldl_unservedCheck_lease (ns : List SourceId) : (ns.foldl State.unservedCheck s).lease = s.lease := by
  induction ns generalizing s with
  | nil => rfl
  | cons n ns ih => simp [ih]
@[simp] theorem State.foldl_unservedCheck_attn (ns : List SourceId) : (ns.foldl State.unservedCheck s).attn = s.attn := by
  induction ns generalizing s with
  | nil => rfl
  | cons n ns ih => simp [ih]
@[simp] theorem State.foldl_unservedCheck_readWord (ns : List SourceId) : (ns.foldl State.unservedCheck s).readWord = s.readWord := by
  induction ns generalizing s with
  | nil => rfl
  | cons n ns ih => simp [ih]
@[simp] theorem State.foldl_unservedCheck_currentSample (ns : List SourceId) : (ns.foldl State.unservedCheck s).currentSample = s.currentSample := by
  induction ns generalizing s with
  | nil => rfl
  | cons n ns ih => simp [ih]
@[simp] theorem State.foldl_unservedCheck_previousSample (ns : List SourceId) : (ns.foldl State.unservedCheck s).previousSample = s.previousSample := by
  induction ns generalizing s with
  | nil => rfl
  | cons n ns ih => simp [ih]
@[simp] theorem State.foldl_unservedCheck_prescale (ns : List SourceId) : (ns.foldl State.unservedCheck s).prescale = s.prescale := by
  induction ns generalizing s with
  | nil => rfl
  | cons n ns ih => simp [ih]
@[simp] theorem State.foldl_unservedCheck_divider (ns : List SourceId) : (ns.foldl State.unservedCheck s).divider = s.divider := by
  induction ns generalizing s with
  | nil => rfl
  | cons n ns ih => simp [ih]
@[simp] theorem State.foldl_unservedCheck_interval (ns : List SourceId) : (ns.foldl State.unservedCheck s).interval = s.interval := by
  induction ns generalizing s with
  | nil => rfl
  | cons n ns ih => simp [ih]
@[simp] theorem State.foldl_unservedCheck_limits (ns : List SourceId) : (ns.foldl State.unservedCheck s).limits = s.limits := by
  induction ns generalizing s with
  | nil => rfl
  | cons n ns ih => simp [ih]
@[simp] theorem State.foldl_unservedCheck_engineQueue (ns : List SourceId) : (ns.foldl State.unservedCheck s).engineQueue = s.engineQueue := by
  induction ns generalizing s with
  | nil => rfl
  | cons n ns ih => simp [ih]
@[simp] theorem State.foldl_unservedCheck_running (ns : List SourceId) : (ns.foldl State.unservedCheck s).running = s.running := by
  induction ns generalizing s with
  | nil => rfl
  | cons n ns ih => simp [ih]
@[simp] theorem State.foldl_unservedCheck_service (ns : List SourceId) : (ns.foldl State.unservedCheck s).service = s.service := by
  induction ns generalizing s with
  | nil => rfl
  | cons n ns ih => simp [ih]
@[simp] theorem State.foldl_unservedCheck_resetNote (ns : List SourceId) : (ns.foldl State.unservedCheck s).resetNote = s.resetNote := by
  induction ns generalizing s with
  | nil => rfl
  | cons n ns ih => simp [ih]
@[simp] theorem State.foldl_unservedCheck_portResets (ns : List SourceId) : (ns.foldl State.unservedCheck s).portResets = s.portResets := by
  induction ns generalizing s with
  | nil => rfl
  | cons n ns ih => simp [ih]
@[simp] theorem State.foldl_unservedCheck_held (ns : List SourceId) : (ns.foldl State.unservedCheck s).held = s.held := by
  induction ns generalizing s with
  | nil => rfl
  | cons n ns ih => simp [ih]
@[simp] theorem State.foldl_unservedCheck_pending (ns : List SourceId) : (ns.foldl State.unservedCheck s).pending = s.pending := by
  induction ns generalizing s with
  | nil => rfl
  | cons n ns ih => simp [ih]

@[simp] theorem State.enterFront_offers (ns : List SourceId) : (s.enterFront ns).offers = s.offers := by
  simp [State.enterFront]
@[simp] theorem State.enterFront_claims (ns : List SourceId) : (s.enterFront ns).claims = s.claims := by
  simp [State.enterFront]
@[simp] theorem State.enterFront_ports (ns : List SourceId) : (s.enterFront ns).ports = s.ports := by
  simp [State.enterFront]
@[simp] theorem State.enterFront_lease (ns : List SourceId) : (s.enterFront ns).lease = s.lease := by
  simp [State.enterFront]
@[simp] theorem State.enterFront_attn (ns : List SourceId) : (s.enterFront ns).attn = s.attn := by
  simp [State.enterFront]
@[simp] theorem State.enterFront_readWord (ns : List SourceId) : (s.enterFront ns).readWord = s.readWord := by
  simp [State.enterFront]
@[simp] theorem State.enterFront_currentSample (ns : List SourceId) : (s.enterFront ns).currentSample = s.currentSample := by
  simp [State.enterFront]
@[simp] theorem State.enterFront_previousSample (ns : List SourceId) : (s.enterFront ns).previousSample = s.previousSample := by
  simp [State.enterFront]
@[simp] theorem State.enterFront_prescale (ns : List SourceId) : (s.enterFront ns).prescale = s.prescale := by
  simp [State.enterFront]
@[simp] theorem State.enterFront_divider (ns : List SourceId) : (s.enterFront ns).divider = s.divider := by
  simp [State.enterFront]
@[simp] theorem State.enterFront_interval (ns : List SourceId) : (s.enterFront ns).interval = s.interval := by
  simp [State.enterFront]
@[simp] theorem State.enterFront_limits (ns : List SourceId) : (s.enterFront ns).limits = s.limits := by
  simp [State.enterFront]
@[simp] theorem State.enterFront_engineQueue (ns : List SourceId) : (s.enterFront ns).engineQueue = s.engineQueue := by
  simp [State.enterFront]
@[simp] theorem State.enterFront_running (ns : List SourceId) : (s.enterFront ns).running = s.running := by
  simp [State.enterFront]
@[simp] theorem State.enterFront_service (ns : List SourceId) : (s.enterFront ns).service = s.service := by
  simp [State.enterFront]
@[simp] theorem State.enterFront_resetNote (ns : List SourceId) : (s.enterFront ns).resetNote = s.resetNote := by
  simp [State.enterFront]
@[simp] theorem State.enterFront_portResets (ns : List SourceId) : (s.enterFront ns).portResets = s.portResets := by
  simp [State.enterFront]
@[simp] theorem State.enterFront_held (ns : List SourceId) : (s.enterFront ns).held = s.held := by
  simp [State.enterFront]
@[simp] theorem State.enterFront_pending (ns : List SourceId) : (s.enterFront ns).pending = s.pending := by
  simp [State.enterFront]
@[simp] theorem State.enterFront_port (ns : List SourceId) (q : Port) : (s.enterFront ns).port q = s.port q := by
  simp only [State.port, State.enterFront_ports]
@[simp] theorem State.enterFront_queue (ns : List SourceId) (q : Port) : (s.enterFront ns).queue q = s.queue q := by
  simp only [State.queue, State.enterFront_offers]
@[simp] theorem State.enterFront_claimOf (ns : List SourceId) (m : SourceId) : (s.enterFront ns).claimOf m = s.claimOf m := by
  simp only [State.claimOf, State.enterFront_claims]

/-- A group at the front of its bands (R48). -/
@[simp] theorem State.enterFront_backlog (ns : List SourceId) :
    (s.enterFront ns).backlog = ns.foldr (fun n b => insertFront BacklogEntry.cls (s.entryFor n) b) s.backlog := by
  simp [State.enterFront]

@[simp] theorem State.latch_offers (n : SourceId) : (s.latch n).offers = s.offers := by
  simp [State.latch]
@[simp] theorem State.latch_claims (n : SourceId) : (s.latch n).claims = s.claims := by
  simp [State.latch]
@[simp] theorem State.latch_ports (n : SourceId) : (s.latch n).ports = s.ports := by
  simp [State.latch]
@[simp] theorem State.latch_lease (n : SourceId) : (s.latch n).lease = s.lease := by
  simp [State.latch]
@[simp] theorem State.latch_attn (n : SourceId) : (s.latch n).attn = s.attn := by
  simp [State.latch]
@[simp] theorem State.latch_readWord (n : SourceId) : (s.latch n).readWord = s.readWord := by
  simp [State.latch]
@[simp] theorem State.latch_currentSample (n : SourceId) : (s.latch n).currentSample = s.currentSample := by
  simp [State.latch]
@[simp] theorem State.latch_previousSample (n : SourceId) : (s.latch n).previousSample = s.previousSample := by
  simp [State.latch]
@[simp] theorem State.latch_prescale (n : SourceId) : (s.latch n).prescale = s.prescale := by
  simp [State.latch]
@[simp] theorem State.latch_divider (n : SourceId) : (s.latch n).divider = s.divider := by
  simp [State.latch]
@[simp] theorem State.latch_interval (n : SourceId) : (s.latch n).interval = s.interval := by
  simp [State.latch]
@[simp] theorem State.latch_limits (n : SourceId) : (s.latch n).limits = s.limits := by
  simp [State.latch]
@[simp] theorem State.latch_engineQueue (n : SourceId) : (s.latch n).engineQueue = s.engineQueue := by
  simp [State.latch]
@[simp] theorem State.latch_running (n : SourceId) : (s.latch n).running = s.running := by
  simp [State.latch]
@[simp] theorem State.latch_service (n : SourceId) : (s.latch n).service = s.service := by
  simp [State.latch]
@[simp] theorem State.latch_resetNote (n : SourceId) : (s.latch n).resetNote = s.resetNote := by
  simp [State.latch]
@[simp] theorem State.latch_portResets (n : SourceId) : (s.latch n).portResets = s.portResets := by
  simp [State.latch]
@[simp] theorem State.latch_held (n : SourceId) : (s.latch n).held = s.held := by
  simp [State.latch]
@[simp] theorem State.latch_pending (n : SourceId) : (s.latch n).pending = s.pending := by
  simp [State.latch]
@[simp] theorem State.latch_port (n : SourceId) (q : Port) : (s.latch n).port q = s.port q := by
  simp only [State.port, State.latch_ports]
@[simp] theorem State.latch_queue (n : SourceId) (q : Port) : (s.latch n).queue q = s.queue q := by
  simp only [State.queue, State.latch_offers]
@[simp] theorem State.latch_claimOf (n : SourceId) (m : SourceId) : (s.latch n).claimOf m = s.claimOf m := by
  simp only [State.claimOf, State.latch_claims]

/-! ### The end of an occurrence and of a claim -/

@[simp] theorem State.endOccurrence_offers (n : SourceId) : (s.endOccurrence n).offers = s.offers := by
  unfold State.endOccurrence; dsimp only; repeat' split
  all_goals simp
@[simp] theorem State.endOccurrence_claims (n : SourceId) : (s.endOccurrence n).claims = s.claims := by
  unfold State.endOccurrence; dsimp only; repeat' split
  all_goals simp
@[simp] theorem State.endOccurrence_ports (n : SourceId) : (s.endOccurrence n).ports = s.ports := by
  unfold State.endOccurrence; dsimp only; repeat' split
  all_goals simp
@[simp] theorem State.endOccurrence_lease (n : SourceId) : (s.endOccurrence n).lease = s.lease := by
  unfold State.endOccurrence; dsimp only; repeat' split
  all_goals simp
@[simp] theorem State.endOccurrence_attn (n : SourceId) : (s.endOccurrence n).attn = s.attn := by
  unfold State.endOccurrence; dsimp only; repeat' split
  all_goals simp
@[simp] theorem State.endOccurrence_readWord (n : SourceId) : (s.endOccurrence n).readWord = s.readWord := by
  unfold State.endOccurrence; dsimp only; repeat' split
  all_goals simp
@[simp] theorem State.endOccurrence_currentSample (n : SourceId) : (s.endOccurrence n).currentSample = s.currentSample := by
  unfold State.endOccurrence; dsimp only; repeat' split
  all_goals simp
@[simp] theorem State.endOccurrence_previousSample (n : SourceId) : (s.endOccurrence n).previousSample = s.previousSample := by
  unfold State.endOccurrence; dsimp only; repeat' split
  all_goals simp
@[simp] theorem State.endOccurrence_prescale (n : SourceId) : (s.endOccurrence n).prescale = s.prescale := by
  unfold State.endOccurrence; dsimp only; repeat' split
  all_goals simp
@[simp] theorem State.endOccurrence_divider (n : SourceId) : (s.endOccurrence n).divider = s.divider := by
  unfold State.endOccurrence; dsimp only; repeat' split
  all_goals simp
@[simp] theorem State.endOccurrence_interval (n : SourceId) : (s.endOccurrence n).interval = s.interval := by
  unfold State.endOccurrence; dsimp only; repeat' split
  all_goals simp
@[simp] theorem State.endOccurrence_limits (n : SourceId) : (s.endOccurrence n).limits = s.limits := by
  unfold State.endOccurrence; dsimp only; repeat' split
  all_goals simp
@[simp] theorem State.endOccurrence_engineQueue (n : SourceId) : (s.endOccurrence n).engineQueue = s.engineQueue := by
  unfold State.endOccurrence; dsimp only; repeat' split
  all_goals simp
@[simp] theorem State.endOccurrence_running (n : SourceId) : (s.endOccurrence n).running = s.running := by
  unfold State.endOccurrence; dsimp only; repeat' split
  all_goals simp
@[simp] theorem State.endOccurrence_service (n : SourceId) : (s.endOccurrence n).service = s.service := by
  unfold State.endOccurrence; dsimp only; repeat' split
  all_goals simp
@[simp] theorem State.endOccurrence_resetNote (n : SourceId) : (s.endOccurrence n).resetNote = s.resetNote := by
  unfold State.endOccurrence; dsimp only; repeat' split
  all_goals simp
@[simp] theorem State.endOccurrence_portResets (n : SourceId) : (s.endOccurrence n).portResets = s.portResets := by
  unfold State.endOccurrence; dsimp only; repeat' split
  all_goals simp
@[simp] theorem State.endOccurrence_held (n : SourceId) : (s.endOccurrence n).held = s.held := by
  unfold State.endOccurrence; dsimp only; repeat' split
  all_goals simp
@[simp] theorem State.endOccurrence_pending (n : SourceId) : (s.endOccurrence n).pending = s.pending := by
  unfold State.endOccurrence; dsimp only; repeat' split
  all_goals simp
@[simp] theorem State.endOccurrence_port (n : SourceId) (q : Port) : (s.endOccurrence n).port q = s.port q := by
  simp only [State.port, State.endOccurrence_ports]
@[simp] theorem State.endOccurrence_queue (n : SourceId) (q : Port) : (s.endOccurrence n).queue q = s.queue q := by
  simp only [State.queue, State.endOccurrence_offers]
@[simp] theorem State.endOccurrence_claimOf (n : SourceId) (m : SourceId) : (s.endOccurrence n).claimOf m = s.claimOf m := by
  simp only [State.claimOf, State.endOccurrence_claims]

/-- What the end of an occurrence can do (R11). -/
theorem State.endOccurrence_cases (n : SourceId) :
    ((s.source n).route.enable = false ∧ s.endOccurrence n = s.setSource n (s.source n).toDisabled) ∨
    ((s.source n).route.enable = true ∧ (s.source n).again = true ∧
      s.endOccurrence n = (s.setSource n { (s.source n).fresh with fold := (s.source n).fold }).enterBack n) ∨
    ((s.source n).route.enable = true ∧ (s.source n).again = false ∧
      ((isPosted n = true ∧ (s.source n).payloads ≠ []) ∨ s.levelActive n = true) ∧ s.endOccurrence n = s.latch n) ∨
    ((s.source n).route.enable = true ∧ (s.source n).again = false ∧ (isPosted n = false ∨ (s.source n).payloads = []) ∧
      s.levelActive n = false ∧ s.endOccurrence n = s.setSource n (s.source n).toIdle) := by
  unfold State.endOccurrence
  cases he : (s.source n).route.enable <;> cases ha : (s.source n).again <;> cases hp : isPosted n <;>
    cases hl : s.levelActive n <;> cases hq : (s.source n).payloads <;> simp_all

@[simp] theorem State.removeClaim_sources (n : SourceId) (p : Port) : (s.removeClaim n p).sources = s.sources := by
  unfold State.removeClaim; dsimp only; split <;> simp
@[simp] theorem State.removeClaim_backlog (n : SourceId) (p : Port) : (s.removeClaim n p).backlog = s.backlog := by
  unfold State.removeClaim; dsimp only; split <;> simp
@[simp] theorem State.removeClaim_offers (n : SourceId) (p : Port) : (s.removeClaim n p).offers = s.offers := by
  unfold State.removeClaim; dsimp only; split <;> simp
@[simp] theorem State.removeClaim_lease (n : SourceId) (p : Port) : (s.removeClaim n p).lease = s.lease := by
  unfold State.removeClaim; dsimp only; split <;> simp
@[simp] theorem State.removeClaim_attn (n : SourceId) (p : Port) : (s.removeClaim n p).attn = s.attn := by
  unfold State.removeClaim; dsimp only; split <;> simp
@[simp] theorem State.removeClaim_readWord (n : SourceId) (p : Port) : (s.removeClaim n p).readWord = s.readWord := by
  unfold State.removeClaim; dsimp only; split <;> simp
@[simp] theorem State.removeClaim_currentSample (n : SourceId) (p : Port) : (s.removeClaim n p).currentSample = s.currentSample := by
  unfold State.removeClaim; dsimp only; split <;> simp
@[simp] theorem State.removeClaim_previousSample (n : SourceId) (p : Port) : (s.removeClaim n p).previousSample = s.previousSample := by
  unfold State.removeClaim; dsimp only; split <;> simp
@[simp] theorem State.removeClaim_prescale (n : SourceId) (p : Port) : (s.removeClaim n p).prescale = s.prescale := by
  unfold State.removeClaim; dsimp only; split <;> simp
@[simp] theorem State.removeClaim_divider (n : SourceId) (p : Port) : (s.removeClaim n p).divider = s.divider := by
  unfold State.removeClaim; dsimp only; split <;> simp
@[simp] theorem State.removeClaim_interval (n : SourceId) (p : Port) : (s.removeClaim n p).interval = s.interval := by
  unfold State.removeClaim; dsimp only; split <;> simp
@[simp] theorem State.removeClaim_limits (n : SourceId) (p : Port) : (s.removeClaim n p).limits = s.limits := by
  unfold State.removeClaim; dsimp only; split <;> simp
@[simp] theorem State.removeClaim_engineQueue (n : SourceId) (p : Port) : (s.removeClaim n p).engineQueue = s.engineQueue := by
  unfold State.removeClaim; dsimp only; split <;> simp
@[simp] theorem State.removeClaim_running (n : SourceId) (p : Port) : (s.removeClaim n p).running = s.running := by
  unfold State.removeClaim; dsimp only; split <;> simp
@[simp] theorem State.removeClaim_service (n : SourceId) (p : Port) : (s.removeClaim n p).service = s.service := by
  unfold State.removeClaim; dsimp only; split <;> simp
@[simp] theorem State.removeClaim_faults (n : SourceId) (p : Port) : (s.removeClaim n p).faults = s.faults := by
  unfold State.removeClaim; dsimp only; split <;> simp
@[simp] theorem State.removeClaim_dropped (n : SourceId) (p : Port) : (s.removeClaim n p).dropped = s.dropped := by
  unfold State.removeClaim; dsimp only; split <;> simp
@[simp] theorem State.removeClaim_resetNote (n : SourceId) (p : Port) : (s.removeClaim n p).resetNote = s.resetNote := by
  unfold State.removeClaim; dsimp only; split <;> simp
@[simp] theorem State.removeClaim_portResets (n : SourceId) (p : Port) : (s.removeClaim n p).portResets = s.portResets := by
  unfold State.removeClaim; dsimp only; split <;> simp
@[simp] theorem State.removeClaim_held (n : SourceId) (p : Port) : (s.removeClaim n p).held = s.held := by
  unfold State.removeClaim; dsimp only; split <;> simp
@[simp] theorem State.removeClaim_pending (n : SourceId) (p : Port) : (s.removeClaim n p).pending = s.pending := by
  unfold State.removeClaim; dsimp only; split <;> simp
@[simp] theorem State.removeClaim_source (n : SourceId) (p : Port) (m : SourceId) : (s.removeClaim n p).source m = s.source m := by
  simp only [State.source, State.removeClaim_sources]
@[simp] theorem State.removeClaim_queue (n : SourceId) (p : Port) (q : Port) : (s.removeClaim n p).queue q = s.queue q := by
  simp only [State.queue, State.removeClaim_offers]

theorem State.claimOf_removeClaim (n m : SourceId) (p : Port) :
    (s.removeClaim n p).claimOf m = if n = m then none else s.claimOf m := by
  unfold State.removeClaim
  dsimp only
  split <;> simp [State.claimOf_setClaim]

/-- The end of a claim leaves a port as it is, but for the end of its draining (R103, R158). -/
theorem State.port_removeClaim (n : SourceId) (p q : Port) :
    (s.removeClaim n p).port q = s.port q ∨
    (q = p ∧ (s.port p).state = .draining ∧ (s.setClaim n none).claimCount p = 0 ∧
      (s.removeClaim n p).port p = { s.port p with state := .offline }) := by
  unfold State.removeClaim
  dsimp only
  split
  · rename_i h
    by_cases hq : q = p
    · subst hq; right; simp_all
    · left; rw [State.port_modPort_ne _ _ _ _ hq]; simp
  · left; simp

/-! ### Admission -/

/-- A port takes accesses exactly while neither RESET nor its PRSTn is asserted (R161, R162). -/
theorem State.holding_eq_false (p : Port) : s.holding p = false ↔ s.resetNote = none ∧ s.portResets[p] = false := by
  simp [State.holding]

theorem State.orHold_held (c : Instr) (p : Port) (f : State → State) (h : s.holding p = true) :
    s.orHold c p f = .next { s with held := s.held ++ [c] } := by
  simp [State.orHold, h]

theorem State.orHold_taken (c : Instr) (p : Port) (f : State → State) (h : s.holding p = false) :
    s.orHold c p f = .next (f s) := by
  simp [State.orHold, h]

/-- A command that R164 admits leaves the code of its rule (R162). -/
theorem State.command_admitted (c : Instr) (p : Port) (a : Admission) (rule : State → State × Result)
    (h : s.holding p = false) (ha : s.refusal a p = none) :
    s.command c p a rule = .next ((rule s).1.setResult p (rule s).2) := by
  simp [State.command, State.orHold, h, ha]

/-- A command that R164 refuses leaves its code and changes nothing else (R163). -/
theorem State.command_refused (c : Instr) (p : Port) (a : Admission) (rule : State → State × Result) (code : Result)
    (h : s.holding p = false) (ha : s.refusal a p = some code) :
    s.command c p a rule = .next (s.setResult p code) := by
  simp [State.command, State.orHold, h, ha]

/-- A command never stops: it answers a next state, one of three (R161, R162, R164). -/
theorem State.command_cases (c : Instr) (p : Port) (a : Admission) (rule : State → State × Result) :
    (s.holding p = true ∧ s.command c p a rule = .next { s with held := s.held ++ [c] }) ∨
    (s.holding p = false ∧ ∃ code, s.refusal a p = some code ∧ s.command c p a rule = .next (s.setResult p code)) ∨
    (s.holding p = false ∧ s.refusal a p = none ∧
      s.command c p a rule = .next ((rule s).1.setResult p (rule s).2)) := by
  cases hn : s.holding p with
  | true => exact .inl ⟨rfl, by simp [State.command, State.orHold, hn]⟩
  | false =>
    cases ha : s.refusal a p with
    | some code => exact .inr (.inl ⟨rfl, code, rfl, State.command_refused s c p a rule code hn ha⟩)
    | none => exact .inr (.inr ⟨rfl, rfl, State.command_admitted s c p a rule hn ha⟩)

/-- A held access stays held exactly while its port takes none; the others go to the front of the queue, all in their
order (R161, R162). -/
theorem State.mem_held_letThrough (c : Instr) : c ∈ s.letThrough.held ↔ c ∈ s.held ∧ s.stillHeld c = true := by
  simp [State.letThrough]

/-- Nothing is let through when every held access waits for a port that takes none. -/
theorem State.letThrough_eq (h : ∀ c ∈ s.held, s.stillHeld c = true) : s.letThrough = s := by
  unfold State.letThrough
  rw [List.filter_eq_self.2 h, List.filter_eq_nil_iff.2 (fun c hc => by simp [h c hc])]
  rfl

/-- When each admission of Table 8-3 admits (R164). -/
theorem State.refusal_none (a : Admission) (p : Port) :
    s.refusal a p = none ↔
      match a with
      | .anyState => True
      | .notOffline => (s.port p).state ≠ .offline
      | .onlineOnly => (s.port p).state = .online
      | .leaseHolder => (s.port p).state = .online ∧ s.lease = some p := by
  cases a <;> cases h : (s.port p).state <;> simp [State.refusal, h]

end Sys2Proof.Machine
end

