-- ==== Sys2Proof/Laws/PerInstr.lean ====
section
/-! SUPPORT. One statement about every command as syntax: a command that the register window decodes from an access is a
well-formed term, and it is the command of the port whose window the access arrives at. -/

namespace Sys2Proof.Laws.DecodedWellFormed

/-- An access at port `p`'s window that decodes to `i` spells a well-formed command of port `p` (R162, R183, R184). -/
def Statement (i : Instr) : Prop :=
  ∀ (p : Port) (a : Access), decodeAccess p a = some i → i.wellFormed = true ∧ Machine.accessPort i = some p

/-- What `decodeWrite` reads is a well-formed command of the port. -/
theorem of_decodeWrite {p : Port} {o : BitVec 8} {w : Word} {i : Instr} (h : decodeWrite p o w = some i) :
    i.wellFormed = true ∧ Machine.accessPort i = some p := by
  unfold decodeWrite at h
  split at h <;> first | (cases h; exact ⟨rfl, rfl⟩) | simp at h

/-- What `decodeTakeRead` reads is a well-formed command of the port. -/
theorem of_decodeTakeRead (p : Port) (reg : TakeRegister) (e : BitVec 4) :
    (decodeTakeRead p reg e).wellFormed = true ∧ Machine.accessPort (decodeTakeRead p reg e) = some p := by
  unfold decodeTakeRead
  split
  · exact ⟨rfl, rfl⟩
  · cases reg <;> exact ⟨rfl, rfl⟩

/-- What `decodeAccess` reads is a well-formed command of the port. -/
theorem of_decode {p : Port} {a : Access} {i : Instr} (h : decodeAccess p a = some i) :
    i.wellFormed = true ∧ Machine.accessPort i = some p := by
  unfold decodeAccess at h
  split at h
  next hu => cases h; exact ⟨hu, rfl⟩
  split at h
  · exact of_decodeWrite h
  split at h
  · cases h; exact of_decodeTakeRead p _ _
  split at h
  · cases h; exact of_decodeTakeRead p _ _
  · cases h

theorem powerOn (levels : Levels) : Statement (.powerOn levels) := fun _ _ h => of_decode h
theorem partReset : Statement .partReset := fun _ _ h => of_decode h
theorem resetRelease (levels : Levels) : Statement (.resetRelease levels) := fun _ _ h => of_decode h
theorem portReset (prst : PortResetInput) : Statement (.portReset prst) := fun _ _ h => of_decode h
theorem lineChange (line : LineId) (level : Bool) : Statement (.lineChange line level) := fun _ _ h => of_decode h
theorem placement : Statement .placement := fun _ _ h => of_decode h
theorem tick : Statement .tick := fun _ _ h => of_decode h
theorem expiry (src : SourceId) : Statement (.expiry src) := fun _ _ h => of_decode h
theorem serviceStart : Statement .serviceStart := fun _ _ h => of_decode h
theorem fetchAnswer (answer : ReadAnswer) : Statement (.fetchAnswer answer) := fun _ _ h => of_decode h
theorem unitReadAnswer (answer : ReadAnswer) : Statement (.unitReadAnswer answer) := fun _ _ h => of_decode h
theorem unitWriteAnswer (answer : WriteAnswer) : Statement (.unitWriteAnswer answer) := fun _ _ h => of_decode h
theorem writebackAnswer (answer : WriteAnswer) : Statement (.writebackAnswer answer) := fun _ _ h => of_decode h
theorem join (p : Port) : Statement (.join p) := fun _ _ h => of_decode h
theorem leave (p : Port) : Statement (.leave p) := fun _ _ h => of_decode h
theorem leaseTake (p : Port) : Statement (.leaseTake p) := fun _ _ h => of_decode h
theorem leaseDrop (p : Port) : Statement (.leaseDrop p) := fun _ _ h => of_decode h
theorem routeSelect (p : Port) (src : SourceId) : Statement (.routeSelect p src) := fun _ _ h => of_decode h
theorem staging0 (p : Port) (data : Word) : Statement (.staging0 p data) := fun _ _ h => of_decode h
theorem staging1 (p : Port) (data : Word) : Statement (.staging1 p data) := fun _ _ h => of_decode h
theorem routeCommit (p : Port) : Statement (.routeCommit p) := fun _ _ h => of_decode h
theorem disable (p : Port) (src : SourceId) : Statement (.disable p src) := fun _ _ h => of_decode h
theorem resume (p : Port) (src : SourceId) : Statement (.resume p src) := fun _ _ h => of_decode h
theorem post (p : Port) (src : SourceId) (payload : Payload) : Statement (.post p src payload) :=
  fun _ _ h => of_decode h
theorem unpost (p : Port) (src : SourceId) : Statement (.unpost p src) := fun _ _ h => of_decode h
theorem claim (p : Port) : Statement (.claim p) := fun _ _ h => of_decode h
theorem complete (p : Port) (src : SourceId) (tag : Tag) : Statement (.complete p src tag) := fun _ _ h => of_decode h
theorem returnClaim (p : Port) (src : SourceId) (tag : Tag) : Statement (.returnClaim p src tag) :=
  fun _ _ h => of_decode h
theorem extend (p : Port) (src : SourceId) (tag : Tag) : Statement (.extend p src tag) := fun _ _ h => of_decode h
theorem floor (p : Port) (value : BitVec 4) : Statement (.floor p value) := fun _ _ h => of_decode h
theorem faultWatch (p : Port) (on : Bool) : Statement (.faultWatch p on) := fun _ _ h => of_decode h
theorem tickDivider (p : Port) (value : Word) : Statement (.tickDivider p value) := fun _ _ h => of_decode h
theorem limit (p : Port) (index : Fin 4) (value : Word) : Statement (.limit p index value) := fun _ _ h => of_decode h
theorem run (p : Port) : Statement (.run p) := fun _ _ h => of_decode h
theorem halt (p : Port) : Statement (.halt p) := fun _ _ h => of_decode h
theorem abort (p : Port) : Statement (.abort p) := fun _ _ h => of_decode h
theorem fault (p : Port) : Statement (.fault p) := fun _ _ h => of_decode h
theorem narrowTakeRead (p : Port) (reg : TakeRegister) (enables : Fin 15) : Statement (.narrowTakeRead p reg enables) :=
  fun _ _ h => of_decode h
theorem undefinedAccess (p : Port) (access : Access) : Statement (.undefinedAccess p access) := fun _ _ h => of_decode h

end Sys2Proof.Laws.DecodedWellFormed
end

