-- ==== Sys2Proof/Tests/Slice0.lean ====
section
/-! SUPPORT. Tests of single steps, with results taken from the spec's tables and worked examples, and for every statement
of Certificates/Slice0/Obligations.lean that has hypotheses a witness: concrete states and operands that meet them, clause
by clause, at the boundary values of their ranges. -/

namespace Sys2Proof.Tests

open Sys2Proof Sys2Proof.Machine

/-! ### Helpers -/

/-- The state after a command; the state itself where the command is refused. -/
def after (c : Instr) (s : State) : State :=
  match exec c s with
  | .next t => t
  | .fault _ => s
  | .refused _ => s

/-- `s` with port `p` ONLINE. -/
def joined (s : State) (p : Port) : State := s.modPort p fun r => { r with state := .online }

/-- `s` with port `p` DRAINING. -/
def draining (s : State) (p : Port) : State := s.modPort p fun r => { r with state := .draining }

/-- P0, P1 and P2 are ONLINE and P0 holds the lease; P3 is OFFLINE. -/
def hosts : State := { joined (joined (joined .reset 0) 1) 2 with lease := some 0 }

/-- `hosts` while RESET is asserted (only the note is set). -/
def inReset : State := { hosts with resetNote := some ⟨none, 0⟩ }

/-- An enabled FIXED entry of source `n` in state `st`, class 4, eligible P0, tag 7; a posted source holds two payloads. -/
def entry (n : SourceId) (st : SourceState) : SourceEntry :=
  { SourceEntry.powerOn n with
    route := { Route.powerOn n with enable := true, cls := 4 }, state := st, tag := 7
    payloads := if 48 ≤ n.val then [0x1234, 0x5678] else [] }

/-- A line source's entry in state `st`, armed at 00020000H. -/
def armedEntry (n : SourceId) (st : SourceState) : SourceEntry :=
  { entry n st with route := { (entry n st).route with descAddr := some 0x00020000#32 } }

/-- The claim that P0 holds of a source with entry `e`, 50 ticks left. -/
def claimFor (n : SourceId) (e : SourceEntry) : Claim :=
  { port := 0, tag := e.tag, cls := e.route.cls, flags := e.flags, payload := if 48 ≤ n.val then some 0x0077 else none,
    fold := 0, remaining := some 50, renewals := 0 }

/-- `hosts` with entry `e` at source `n`, standing in the collection of its state. -/
def standing (n : SourceId) (e : SourceEntry) : State :=
  let s := hosts.setSource n e
  match e.state with
  | .latched => { s with backlog := [⟨n, e.route.cls⟩] }
  | .offered => s.setQueue 0 [⟨n, e.route.cls, e.tag, e.flags, false⟩]
  | .claimed => s.setClaim n (some (claimFor n e))
  | .engineWait => { s with engineQueue := [n] }
  | .engineActive => { s with service := some ⟨n, e.route.descAddr.getD 0, false, false, .fetch0⟩ }
  | .idle => s
  | .disabled => s
  | .suspended => s

/-- A working record of descriptor A of section 11.3.4 with two units left. -/
def workA : Work :=
  { control := 0x00080A16#32, unit := .four, srcStep := .up, dstStep := .up, policy := .descriptor,
    link := some 0x00020010#32, src := 0x00100000#32, dst := 0x00200000#32, count := 8, left := 2 }

/-- Source 15 in service at 00020000H, in phase `ph`. -/
def serving (ph : Phase) : State :=
  { standing 15 (armedEntry 15 .engineActive) with service := some ⟨15, 0x00020000#32, false, false, ph⟩ }

/-- A stored fault record. -/
def record : FaultRecord := unservedRecord 36 { entry 36 .latched with tag := 3, flags := ⟨false, false, false, true⟩ }

/-! ### Well-formedness and the register window -/

/-- WellFormed refuses an UNDEFINED_ACCESS whose access Table 10-2 defines: a full-word write of JOIN. -/
theorem test_wellFormed_refuses_defined_access :
    Instr.wellFormed (.undefinedAccess 0 ⟨true, 0x80, 0xF, 0⟩) = false := by decide

/-- A narrow write and a read at an offset without a register are accesses of that row (R183, R184). -/
theorem test_wellFormed_takes_undefined_access :
    Instr.wellFormed (.undefinedAccess 0 ⟨true, 0x80, 0x7, 0⟩) = true ∧
    Instr.wellFormed (.undefinedAccess 0 ⟨false, 0x58, 0xF, 0⟩) = true := by decide

/-- Writes at the offsets of Table 10-2 with the operand fields of Table 10-3. -/
theorem test_decode_writes :
    decodeAccess 2 ⟨true, 0x84, 0xF, 0xFFFFFFFF⟩ = some (.leave 2) ∧
    decodeAccess 1 ⟨true, 0x98, 0xF, 0x0000003F⟩ = some (.disable 1 63) ∧
    decodeAccess 3 ⟨true, 0xA0, 0xF, 0x12340031⟩ = some (.post 3 49 0x1234) ∧
    decodeAccess 0 ⟨true, 0xA8, 0xF, 0x00000F31⟩ = some (.complete 0 49 15) ∧
    decodeAccess 0 ⟨true, 0x4C, 0xF, 0x00000032⟩ = some (.limit 0 1 50) ∧
    decodeAccess 0 ⟨true, 0xB4, 0xF, 0x00000018⟩ = some (.floor 0 8) := by decide

/-- Reads of CLAIM and FAULT, a narrow read of CLAIM, and a status read, which is no command (R162, R183). -/
theorem test_decode_reads :
    decodeAccess 1 ⟨false, 0x08, 0xF, 0⟩ = some (.claim 1) ∧
    decodeAccess 1 ⟨false, 0x18, 0xF, 0⟩ = some (.fault 1) ∧
    decodeAccess 1 ⟨false, 0x08, 0x3, 0⟩ = some (.narrowTakeRead 1 .claim 3) ∧
    decodeAccess 1 ⟨false, 0x04, 0xF, 0⟩ = none := by decide

/-! ### One step of each command -/

/-- Power-on keeps no setting (R26, Table 6-1). -/
theorem test_powerOn_clears : (after (.powerOn 5) hosts).lease = none ∧ (after (.powerOn 5) hosts).currentSample = 5 ∧
    (after (.powerOn 5) hosts).divider = 100 := by decide

/-- Part reset keeps the route record and the tag, and sends an enabled source to IDLE (R27). -/
theorem test_partReset_keeps_record :
    ((after .partReset (standing 0 (entry 0 .claimed))).source 0).state = .idle ∧
    ((after .partReset (standing 0 (entry 0 .claimed))).source 0).tag = 7 ∧
    (after .partReset (standing 0 (entry 0 .claimed))).resetNote = some ⟨none, 1⟩ := by decide

/-- The release hands a PART_RESET record, and an access held meanwhile is let through (R162, R180). -/
theorem test_resetRelease_hands_record :
    (after (.resetRelease 0) { inReset with held := [.join 3] }).faults = [partResetRecord ⟨none, 0⟩] ∧
    (after (.resetRelease 0) { inReset with held := [.join 3] }).pending = [.join 3] := by decide +kernel

/-- An access held at a port whose PRSTn is asserted is let through by its release, not by that of RESET (R161). -/
theorem test_portReset_release_lets_through :
    let s : State := { (inReset.setPortReset 3 true) with held := [.claim 3, .join 0] }
    let t := after (.resetRelease 0) s
    (t.held = [.claim 3] ∧ t.pending = [.join 0]) ∧
    (after (.portReset ⟨3, false⟩) t).held = [] ∧ (after (.portReset ⟨3, false⟩) t).pending = [.claim 3, .join 0] := by
  decide +kernel

/-- PRST0 revokes P0's claim without raising the revocation count; the source returns with exclusion P0 (R110, R160). -/
theorem test_portReset_revokes :
    let t := after (.portReset ⟨0, true⟩) (standing 0 (entry 0 .claimed))
    (t.source 0).state = .latched ∧ (t.source 0).exclusion = some 0 ∧ (t.source 0).revocations = 0 ∧
    t.faults = [portResetRecord 0 1, unservedRecord 0 ((entry 0 .latched).reenter (some 0))] := by decide

/-- An edge in CLAIMED sets the again flag; an edge in OFFERED adds to the fold count (Table 2-3). -/
theorem test_lineChange_folds :
    ((after (.lineChange 11 true) (standing 11 (entry 11 .claimed))).source 11).again = true ∧
    ((after (.lineChange 11 true) (standing 11 (entry 11 .offered))).source 11).fold = 1 := by decide

/-- A falling edge at a RISING source has no effect; a level-detected source latches at its active level (Table 2-2). -/
theorem test_lineChange_detection :
    ((after (.lineChange 0 false) { standing 0 (entry 0 .idle) with currentSample := 1 }).source 0).state = .idle ∧
    ((after (.lineChange 0 true) (standing 0 { entry 0 .idle with
      route := { (entry 0 .idle).route with detection := some .high } })).source 0).state = .latched := by decide

/-- A contest among P0 to P2 writes three offers with the next tag and the contest mark (section 11.3.1). -/
theorem test_placement_contest :
    let e := { entry 11 .latched with
               route := { (entry 11 .latched).route with mode := .contest, eligible := 0b0111#4, cls := 5 }, tag := 60 }
    (after .placement (standing 11 e)).queue 2 = [⟨11, 5, 61, .none, true⟩] ∧
    (after .placement (standing 11 e)).attn = #v[true, true, true, false] := by decide

/-- An armed source goes to the engine queue, its tag unchanged (R54). -/
theorem test_placement_engine :
    (after .placement (standing 15 (armedEntry 15 .latched))).engineQueue = [15] ∧
    ((after .placement (standing 15 (armedEntry 15 .latched))).source 15).tag = 7 := by decide

/-- A tick lowers the remaining ticks and brings the accepted divider into force (R112, R114). -/
theorem test_tick_lowers :
    let t := after .tick { standing 0 (entry 0 .claimed) with divider := 9, prescale := 40 }
    (t.claimOf 0).map Claim.remaining = some (some 49) ∧ t.interval = 9 ∧ t.prescale = 0 := by decide

/-- The third expiry suspends the source and hands CLAIM_EXPIRED and ABANDONED (section 11.3.3). -/
theorem test_expiry_third :
    let e := { entry 24 .claimed with revocations := 2, tag := 30 }
    let c := { claimFor 24 e with fold := 3, remaining := some 0 }
    let t := after (.expiry 24) ((standing 24 e).setClaim 24 (some c))
    (t.source 24).state = .suspended ∧ (t.source 24).fold = 3 ∧
    t.faults = [claimExpiredRecord 24 c 3 false, abandonedRecord 24 c 3] := by decide

/-- An expired posted claim gives its payload back ahead of the queue (section 11.3.2). -/
theorem test_expiry_restores_payload :
    let s := (standing 49 (entry 49 .claimed)).setClaim 49
      (some { claimFor 49 (entry 49 .claimed) with remaining := some 0 })
    ((after (.expiry 49) s).source 49).payloads = [0x0077, 0x1234, 0x5678] := by decide

/-- A service starts at the head of the engine queue with a read of descriptor word 0 (R128, R132). -/
theorem test_serviceStart :
    (after .serviceStart (standing 15 (armedEntry 15 .engineWait))).memoryPort = some ⟨false, 0x00020000, 4, 0⟩ ∧
    (after .serviceStart (standing 15 (armedEntry 15 .engineWait))).engineQueue = [] := by decide

/-- The fourth word of descriptor A enters MOVE with 8 units left (section 11.3.4). -/
theorem test_fetchAnswer_enters_move :
    (after (.fetchAnswer (.completed 0x00020011)) (serving (.fetch3 0x00080A16 0x00100000 0x00200000))).service =
      some ⟨15, 0x00020000, false, false, .moveRead { workA with left := 8 }⟩ := by decide

/-- A descriptor with unit size code 3 disarms the source and hands on with ENGINE_FAULT (Table 7-5). -/
theorem test_fetchAnswer_bad_unit :
    let t := after (.fetchAnswer (.completed 0)) (serving (.fetch3 0x00080A17 0x00100000 0x00200000))
    (t.source 15).route.descAddr = none ∧ (t.source 15).flags = ⟨false, true, false, false⟩ ∧
    t.faults.map FaultRecord.detail = [.descriptorInvalid .badUnit] := by decide

/-- The data read is written at the destination address (R137). -/
theorem test_unitReadAnswer :
    (after (.unitReadAnswer (.completed 0xCAFE)) (serving (.moveRead workA))).memoryPort =
      some ⟨true, 0x00200000, 4, 0xCAFE⟩ := by decide

/-- A completed unit steps both addresses and lowers the count (R137, R138). -/
theorem test_unitWriteAnswer :
    (after (.unitWriteAnswer .completed) (serving (.moveWrite workA 0))).service =
      some ⟨15, 0x00020000, false, false,
        .moveRead { workA with src := 0x00100004, dst := 0x00200004, count := 7, left := 1 }⟩ := by decide

/-- A unit write answered with error records the destination address and starts the writeback (R144). -/
theorem test_unitWriteAnswer_error :
    let t := after (.unitWriteAnswer .error) (serving (.moveWrite workA 0))
    t.faults.map FaultRecord.address = [some 0x00200000] ∧ t.memoryPort = some ⟨true, 0x00020000, 4, 0x00080A16⟩ := by
  decide

/-- After the writeback of A at count 0 the address advances to its link and the hand-on carries ENGINE_DONE (11.3.4). -/
theorem test_writebackAnswer_links :
    let t := after (.writebackAnswer .completed) (serving (.writeback { workA with count := 0, left := 0 } 2))
    (t.source 15).route.descAddr = some 0x00020010 ∧ (t.source 15).flags = ⟨true, false, false, false⟩ ∧
    t.backlog = [⟨15, 4⟩] ∧ t.service = none := by decide

/-- JOIN at an OFFLINE port (R156). -/
theorem test_join : ((after (.join 3) hosts).port 3).state = .online := by decide

/-- LEAVE withdraws a FIXED offer: back to the backlog with the port as exclusion and REOFFER (R157, section 11.3.5). -/
theorem test_leave_withdraws :
    let t := after (.leave 0) (standing 40 (entry 40 .offered))
    t.backlog = [⟨40, 4⟩] ∧ (t.source 40).exclusion = some 0 ∧ (t.source 40).flags.reoffer = true ∧ t.lease = none ∧
    (t.port 0).state = .offline := by decide

/-- LEASE TAKE while another port holds the lease, and of a free lease (R166). -/
theorem test_leaseTake :
    ((after (.leaseTake 1) hosts).port 1).result = .leased ∧
    (after (.leaseTake 1) { hosts with lease := none }).lease = some 1 := by decide

/-- LEASE DROP frees the lease of its holder only (R166). -/
theorem test_leaseDrop :
    (after (.leaseDrop 0) hosts).lease = none ∧ ((after (.leaseDrop 1) hosts).port 1).result = .nolease := by decide

/-- ROUTE SELECT copies the live record into the staging (R169). -/
theorem test_routeSelect :
    (((after (.routeSelect 0 15) (standing 15 (armedEntry 15 .idle))).port 0).staging).descAddr = 0x00020000 := by decide

/-- STAGING 0 of a RISING, CONTEST, P0 to P2, class 5 record, enable on (Table 10-4), and mode code 3. -/
theorem test_staging0 :
    ((after (.staging0 0 0x00000F1B) hosts).port 0).staging =
      ⟨true, 5, some .rising, .contest, 0b0111#4, 0, false, 0⟩ ∧
    ((after (.staging0 0 0x00000F9B) hosts).port 0).result = .invalid := by decide

/-- STAGING 1 keeps the whole word (R187). -/
theorem test_staging1 : ((after (.staging1 0 0x12345678) hosts).port 0).staging.descAddr = 0x12345678 := by decide

/-- ROUTE COMMIT with enable on takes a DISABLED source to IDLE (R24). -/
theorem test_routeCommit :
    let s := hosts.modPort 0 fun r => { r with selected := 9, staging := { r.staging with enable := true, cls := 3 } }
    ((after (.routeCommit 0) s).source 9).state = .idle ∧ ((after (.routeCommit 0) s).source 9).route.cls = 3 := by
  decide

/-- ROUTE COMMIT with an empty eligible set is INVALID (R23). -/
theorem test_routeCommit_invalid :
    let s := hosts.modPort 0 fun r => { r with staging := { r.staging with eligible := 0 } }
    ((after (.routeCommit 0) s).port 0).result = .invalid := by decide

/-- DISABLE in OFFERED withdraws the offer; in CLAIMED the source stays CLAIMED, disable-pending (Table 1-7). -/
theorem test_disable :
    (after (.disable 0 5) (standing 5 (entry 5 .offered))).queue 0 = [] ∧
    ((after (.disable 0 5) (standing 5 (entry 5 .offered))).source 5).state = .disabled ∧
    ((after (.disable 0 5) (standing 5 (entry 5 .claimed))).source 5).state = .claimed := by decide

/-- RESUME by a port that is not eligible and holds no lease (section 11.3.3). -/
theorem test_resume :
    let t := after (.resume 1 24) (standing 24 { entry 24 .suspended with revocations := 3, fold := 4, again := true })
    (t.source 24).state = .latched ∧ (t.source 24).fold = 4 ∧ (t.source 24).revocations = 0 ∧
    (t.port 1).result = .ok := by decide

/-- POST latches an IDLE posted source; POST to a line source is INVALID (Table 2-5). -/
theorem test_post :
    ((after (.post 2 49 0x1234) (standing 49 { entry 49 .idle with payloads := [] })).source 49).state = .latched ∧
    ((after (.post 2 47 0x1234) hosts).port 2).result = .invalid := by decide

/-- UNPOST in OFFERED: the head payload goes, and the next one latches (R40). -/
theorem test_unpost :
    let t := after (.unpost 0 49) (standing 49 (entry 49 .offered))
    (t.source 49).payloads = [0x5678] ∧ (t.source 49).state = .latched ∧ t.queue 0 = [] := by decide

/-- A CLAIM read of a posted source: source 49 in bits 9:4, class 4 in 12:10, payload present, tag 7 in 25:18 (Table
10-8). -/
theorem test_claim_word :
    (after (.claim 0) (standing 49 (entry 49 .offered))).readWord[0] = 0x001C3310#32 ∧
    ((after (.claim 0) (standing 49 (entry 49 .offered))).port 0).claimData = some ⟨49, some 0x1234, 0⟩ := by decide

/-- LIMIT0 is 0 at power-on, so a claim with limit index 0 is untimed (R94, Table 6-1). -/
theorem test_claim_untimed :
    ((after (.claim 0) (standing 5 (entry 5 .offered))).claimOf 5).map Claim.remaining = some none := by decide

/-- COMPLETE with the again flag set latches one further occurrence (R11, section 11.3.1). -/
theorem test_complete_again :
    let t := after (.complete 0 11 7) (standing 11 { entry 11 .claimed with again := true, fold := 2 })
    (t.source 11).state = .latched ∧ (t.source 11).again = false ∧ (t.source 11).fold = 2 ∧ t.claimOf 11 = none := by
  decide

/-- COMPLETE with another tag is a MISMATCH, at another port STALE (R99). -/
theorem test_complete_unmatched :
    ((after (.complete 0 11 8) (standing 11 (entry 11 .claimed))).port 0).result = .mismatch ∧
    ((after (.complete 1 11 7) (standing 11 (entry 11 .claimed))).port 1).result = .stale := by decide

/-- RETURN: front of the band, exclusion the returning port, REOFFER (R101). -/
theorem test_returnClaim :
    let t := after (.returnClaim 0 11 7) { standing 11 (entry 11 .claimed) with backlog := [⟨3, 4⟩] }
    t.backlog = [⟨11, 4⟩, ⟨3, 4⟩] ∧ (t.source 11).exclusion = some 0 ∧ (t.source 11).flags.reoffer = true := by decide

/-- EXTEND restarts the timer and counts a renewal; the fourth is refused LIMIT (R102). -/
theorem test_extend :
    let s := standing 11 { entry 11 .claimed with route := { (entry 11 .claimed).route with limitIdx := 1 } }
    let full := s.setClaim 11 (some { claimFor 11 (entry 11 .claimed) with renewals := 3 })
    ((after (.extend 0 11 7) s).claimOf 11).map (fun c => (c.remaining, c.renewals)) = some (some 1000, 1) ∧
    ((after (.extend 0 11 7) full).port 0).result = .limit := by decide

/-- FLOOR takes 8 and refuses 9 (R171). -/
theorem test_floor :
    ((after (.floor 1 8) hosts).port 1).floor = 8 ∧ ((after (.floor 1 9) hosts).port 1).result = .invalid := by decide

/-- FAULT WATCH raises the attention line while a record waits (R85). -/
theorem test_faultWatch : (after (.faultWatch 1 true) { hosts with faults := [record] }).attn[1] = true := by decide

/-- TICK DIVIDER takes 4096 and refuses 0 (R112). -/
theorem test_tickDivider :
    (after (.tickDivider 0 4096) hosts).divider = 4096 ∧ ((after (.tickDivider 0 0) hosts).port 0).result = .invalid := by
  decide

/-- LIMIT2 takes 65535 under the lease; without the lease the write is refused NOLEASE (R113, R164). -/
theorem test_limit :
    (after (.limit 0 2 65535) hosts).limits = #v[0, 1000, 65535, 60000] ∧
    ((after (.limit 1 2 50) hosts).port 1).result = .nolease := by decide

/-- RUN after HALT (R129). -/
theorem test_run : (after (.run 0) { hosts with running := false }).running = true := by decide

/-- HALT (R129). -/
theorem test_halt : (after (.halt 0) hosts).running = false := by decide

/-- ABORT marks the service in flight, and is answered EMPTY without one (R147). -/
theorem test_abort :
    ((after (.abort 0) (serving .fetch0)).service).map Service.abort = some true ∧
    ((after (.abort 0) hosts).port 0).result = .empty := by decide

/-- The first word of an UNSERVED record of source 36 with tag 3 and its flags in the second word (Tables 10-9, 10-10). -/
theorem test_fault_words :
    (after (.fault 1) { hosts with faults := [record] }).readWord[1] = 0x000324B0#32 ∧
    ((after (.fault 1) { hosts with faults := [record] }).port 1).faultData = some 8 := by decide

/-- A narrow read of CLAIM takes nothing and returns 0 (R183). -/
theorem test_narrowTakeRead :
    after (.narrowTakeRead 0 .claim 3) (standing 5 (entry 5 .offered)) = standing 5 (entry 5 .offered) := by decide

/-- A write at an offset that is no command register changes nothing (R184). -/
theorem test_undefinedAccess : after (.undefinedAccess 0 ⟨true, 0xC8, 0xF, 0⟩) hosts = hosts := by decide

/-! ### Witnesses: the hypotheses of each statement are met, clause by clause -/

/-- A claim that is not there is no claim. -/
theorem no_claim {s : State} {n : SourceId} {c : Claim} (h : s.claimOf n = none) (hc : s.claimOf n = some c) : False := by
  rw [h] at hc; cases hc

/-- No source has a claim in `hosts`. -/
theorem hosts_noClaims : ∀ n, hosts.claimOf n = none := by decide

/-- `standing 5` in LATCHED: a backlog entry, no offers, claims or services. -/
def latched5 : State := standing 5 (entry 5 .latched)

/-- No source of `latched5` is armed. -/
theorem latched5_unarmed : ∀ n, (latched5.source n).route.descAddr = none := by decide

/-- Source 11 CLAIMED at P0 with remaining ticks `r` and `k` renewals, revocation count `rev` and enable `en`. -/
def claimed11 (r : Option (BitVec 16)) (k rev : Fin 4) (en : Bool) : State :=
  let e := { entry 11 .claimed with route := { (entry 11 .claimed).route with enable := en }, revocations := rev }
  (standing 11 e).setClaim 11 (some { claimFor 11 e with remaining := r, renewals := k })

/-- Source 49 CLAIMED or SUSPENDED, or IDLE, with the payload queue `q`. -/
def posted49 (st : SourceState) (q : List Payload) : State :=
  standing 49 { entry 49 st with payloads := q, revocations := if st = .suspended then 3 else 0 }

/-- P0 at ONLINE has selected source `n` with staging `g`; the source is in state `st`. -/
def staged (n : SourceId) (st : SourceState) (g : Staging) : State :=
  (standing n (entry n st)).modPort 0 fun r => { r with selected := n, staging := g }

theorem test_witness_FrontCommandIsTaken :
    ({ hosts with pending := [.tick, .placement] } : State).pending = .tick :: [.placement] := by decide

/-- Each clause in turn: RESET asserted; the last cycle short of the interval; the interval's end with an expiry due, and
without. -/
theorem test_witness_IdleStepIsOneClockCycle :
    (inReset.pending = [] ∧ inReset.resetNote ≠ none) ∧
    ({ hosts with prescale := 98 } : State).prescale + 1 < hosts.interval ∧
    ({ claimed11 (some 0) 0 0 true with prescale := 99 } : State).interval ≤ 99 + 1 ∧
    (∃ n c, (claimed11 (some 0) 0 0 true).claimOf n = some c ∧ c.remaining = some 0) ∧
    (∀ n c, ({ hosts with prescale := 99 } : State).claimOf n = some c → c.remaining ≠ some 0) ∧
    hosts.pending = [] ∧ hosts.resetNote = none := by
  exact ⟨by decide, by decide, by decide, ⟨11, _, rfl, rfl⟩, fun n c h => (no_claim (hosts_noClaims n) h).elim, by decide,
    by decide⟩

theorem test_witness_PowerOnValues : (0 : Levels) = 0 ∧ hosts.held ++ hosts.pending = [] := by decide

/-- The entry of source 5 in `latched5`, and every entry that power-on leaves, fits its state. -/
theorem latched5_entries (n : SourceId) : EntryOk latched5 n (latched5.source n) where
  route := {
    detection := by revert n; decide
    unarmed   := by revert n; decide
    eligible  := by revert n; decide
    fixed     := by revert n; decide
    aligned   := fun a h => nomatch (latched5_unarmed n).symm.trans h }
  enabled   := by revert n; decide
  disabled  := by revert n; decide
  cleared   := by revert n; decide
  suspended := by revert n; decide
  counted   := by revert n; decide
  again     := by revert n; decide
  excluded  := by revert n; decide
  engine    := by revert n; decide
  fresh     := by revert n; decide
  hostPath  := by revert n; decide
  pending   := by revert n; decide
  posted    := by revert n; decide
  level     := by revert n; decide
  line      := by revert n; decide
  payloads  := by revert n; decide
  head      := by revert n; decide

/-- The collections of `latched5` agree with its source states. -/
theorem latched5_collections : BacklogOk latched5 ∧ OffersOk latched5 ∧ ClaimsOk latched5 := by
  have hc : ∀ n, latched5.claimOf n = none := by decide
  have backlog : BacklogOk latched5 := by constructor <;> decide
  have offers : OffersOk latched5 := by constructor <;> decide
  exact ⟨backlog, offers,
    { claimed  := by decide
      room     := by decide
      agree    := fun n _ h => (no_claim (hc n) h).elim
      unfolded := fun n _ h => (no_claim (hc n) h).elim }⟩

/-- The engine of `latched5` is IDLE with an empty queue. -/
theorem latched5_engine : EngineOk latched5 where
  room    := by decide
  nodup   := by decide
  waiting := by decide
  active n := by
    have : (latched5.source n).state ≠ .engineActive := by revert n; decide
    exact iff_of_false this fun ⟨_, h, _⟩ => nomatch h
  armed   := by decide
  address _ h := nomatch h
  moving _ _ h := nomatch h
  link _ _ _ h := nomatch h
  fault _ h := nomatch h

/-- A state that is not the reset state meets the invariant, and a step is taken from it. -/
theorem test_witness_InvariantKeptByStep : Inv latched5 ∧ step latched5 = .next latched5.clockCycle :=
  ⟨{ backlog := latched5_collections.1
     offers  := latched5_collections.2.1
     claims  := latched5_collections.2.2
     engine  := latched5_engine
     ports   := by constructor <;> decide
     entries := latched5_entries
     time    := by constructor <;> decide
     attn    := by unfold AttnOk; decide
     faults  := by unfold FaultsOk; decide
     reset   := ⟨by decide, by decide, fun _ h => nomatch h⟩ }, rfl⟩

theorem test_witness_AttentionFollowsConditionKept : AttnOk latched5 ∧ step latched5 = .next latched5.clockCycle := by
  refine ⟨?_, rfl⟩
  unfold AttnOk; decide

theorem test_witness_BandsStayInOrder :
    latched5.backlog.Pairwise (fun a b => b.cls ≤ a.cls) ∧
    (∀ p, (latched5.queue p).Pairwise fun a b => b.cls ≤ a.cls) ∧ step latched5 = .next latched5.clockCycle :=
  ⟨by decide, by decide, rfl⟩

theorem test_witness_InsertionStandsInBand :
    ([⟨1, 5⟩, ⟨2, 5⟩, ⟨3, 2⟩] : List BacklogEntry).Pairwise (fun x y => y.cls ≤ x.cls) := by decide

/-- RESET alone, and PRST3 alone. -/
theorem test_witness_AccessHeldWhileReset :
    (inReset.resetNote ≠ none ∧ inReset.portResets[(3 : Port)] = false) ∧
    ((hosts.setPortReset 3 true).resetNote = none ∧ (hosts.setPortReset 3 true).portResets[(3 : Port)] = true) ∧
    accessPort (.join 3) = some 3 ∧ Instr.wellFormed (.join 3) = true := by decide

/-- OFFLINE; DRAINING with a row of each kind; ONLINE without the lease. -/
theorem test_witness_RefusedCommandChangesOnlyResult :
    takesAccesses hosts 3 ∧ takesAccesses hosts 1 ∧ commandRow (.complete 3 0 0) = some (3, .notOffline) ∧
    (hosts.port 3).state = .offline ∧
    commandRow (.floor 1 0) = some (1, .onlineOnly) ∧ commandRow (.halt 1) = some (1, .leaseHolder) ∧
    ((draining hosts 1).port 1).state = .draining ∧ takesAccesses (draining hosts 1) 1 ∧
    (hosts.port 1).state = .online ∧ hosts.lease ≠ some 1 := by decide

/-- P0 holds eight claims and one offer. -/
def fullPort : State :=
  { standing 20 (entry 20 .offered) with
    claims := ⟨⟨allSources.map fun n => if n.val < 8 then some (claimFor n (entry n .claimed)) else none⟩,
      by simp [allSources]⟩ }

theorem test_witness_TakeReadRefusals :
    (takesAccesses hosts 3 ∧ (hosts.port 3).state = .offline) ∧
    (takesAccesses (draining hosts 1) 1 ∧ ((draining hosts 1).port 1).state = .draining ∧
      (draining hosts 1).faults = []) ∧
    (takesAccesses hosts 1 ∧ (hosts.port 1).state = .online ∧ hosts.queue 1 = []) ∧
    (takesAccesses fullPort 0 ∧ (fullPort.port 0).state = .online ∧ fullPort.queue 0 ≠ [] ∧
      fullPort.claimCount 0 = 8) := by
  decide

theorem test_witness_NarrowAndUndefinedAccess :
    takesAccesses hosts 0 ∧ Access.undefined ⟨false, 0x58, 0xF, 0⟩ = true ∧ Access.undefined ⟨false, 0x01, 0x2, 0⟩ = true ∧
    Access.undefined ⟨true, 0xC8, 0xF, 0⟩ = true ∧ Access.undefined ⟨true, 0xC4, 0x7, 0⟩ = true := by decide

theorem test_witness_JoinTakesPortOnline : takesAccesses hosts 0 := by decide

theorem test_witness_LeaveWithdrawsOffers :
    (takesAccesses (draining hosts 1) 1 ∧ ((draining hosts 1).port 1).state = .draining) ∧
    takesAccesses (standing 40 (entry 40 .offered)) 0 ∧ ((standing 40 (entry 40 .offered)).port 0).state = .online ∧
    (standing 40 (entry 40 .offered)).hasOffer 0 40 = true := by decide

theorem test_witness_LeaseTakeAndDrop :
    takesAccesses hosts 1 ∧ (hosts.port 1).state = .online ∧ ({ hosts with lease := none } : State).lease = none ∧
    hosts.lease = some 0 ∧ (hosts.port 0).state = .online ∧ (1 : Port) ≠ 0 := by decide

/-- The refused detection codes 6 and 7 and mode code 3, and the last codes that name a value, 5 and 2. -/
theorem test_witness_StagingIsWritten :
    takesAccesses hosts 0 ∧ (hosts.port 0).state = .online ∧
    6 ≤ ((0x060 : Word).extractLsb' 4 3).toNat ∧ 6 ≤ ((0x070 : Word).extractLsb' 4 3).toNat ∧
    ((0x180 : Word).extractLsb' 7 2).toNat = 3 ∧
    ((0x150 : Word).extractLsb' 4 3).toNat = 5 ∧ ((0x150 : Word).extractLsb' 7 2).toNat = 2 := by decide

theorem test_witness_FloorAndFaultWatch :
    takesAccesses hosts 0 ∧ (hosts.port 0).state = .online ∧ (8 : BitVec 4).toNat < 9 ∧ 9 ≤ (9 : BitVec 4).toNat ∧
    (hosts.port 3).state ≠ .online ∧ ((draining hosts 1).port 1).state ≠ .online := by decide

theorem test_witness_DividerAndLimitWrites :
    takesAccesses hosts 0 ∧ (hosts.port 0).state = .online ∧ hosts.lease = some 0 ∧
    1 ≤ (1 : Word).toNat ∧ (4096 : Word).toNat ≤ 4096 ∧ (0 : Word).toNat = 0 ∧ 4096 < (4097 : Word).toNat ∧
    (65535 : Word).toNat ≤ 65535 ∧ 65535 < (65536 : Word).toNat := by decide

theorem test_witness_RunHaltAbort :
    takesAccesses hosts 0 ∧ (hosts.port 0).state = .online ∧ hosts.lease = some 0 ∧ hosts.service = none ∧
    takesAccesses (serving .fetch0) 0 ∧ (serving .fetch0).lease = some 0 ∧ ((serving .fetch0).port 0).state = .online ∧
    (serving .fetch0).service = some ⟨15, 0x00020000, false, false, .fetch0⟩ := by decide

/-- Busy, and each check of R23 in turn on a DISABLED or IDLE source. -/
theorem test_witness_RouteCommitRefusals :
    let g := Staging.default
    let held (n : SourceId) (st : SourceState) (g : Staging) : Prop :=
      takesAccesses (staged n st g) 0 ∧ ((staged n st g).port 0).state = .online ∧ (staged n st g).lease = some 0 ∧
      ((staged n st g).port 0).selected = n ∧ ((staged n st g).port 0).staging = g ∧
      ((staged n st g).source n).state = st
    held 5 .latched g ∧ (held 48 .disabled g ∧ g.detection ≠ none) ∧ held 47 .idle { g with detection := none } ∧
    held 48 .idle { g with detection := none, descPresent := true } ∧
    (held 47 .idle { g with descPresent := true, descAddr := 8 } ∧ (8 : Word).toNat % 16 ≠ 0) ∧
    held 0 .disabled { g with eligible := 0 } ∧
    (held 0 .disabled { g with eligible := 0b0011#4 } ∧ ¬∃ q : Port, 0b0011#4 = BitVec.twoPow 4 q.val) := by decide

/-- The premises of an accepted ROUTE COMMIT, with `lineActive` at `active`. -/
def CommitReady (s : State) (n : SourceId) (g : Staging) (active : Bool) : Prop :=
  takesAccesses s 0 ∧ (s.port 0).state = .online ∧ s.lease = some 0 ∧ (s.port 0).selected = n ∧
  (s.port 0).staging = g ∧ ((s.source n).state = .disabled ∨ (s.source n).state = .idle) ∧
  (n.val < 48 ↔ g.detection ≠ none) ∧ (g.descPresent = true → n.val < 48 ∧ g.descAddr.toNat % 16 = 0) ∧
  g.eligible ≠ 0 ∧ (g.mode = .fixed → ∃ q : Port, g.eligible = BitVec.twoPow 4 q.val) ∧
  lineActive s n { s.source n with route := g.toRoute } = active

/-- A staging with enable on and detection `d`. -/
def enabling (d : Option Detection) : Staging := { Staging.default with enable := true, detection := d }

/-- An armed CONTEST staging for all ports, enable on. -/
def contesting : Staging :=
  { enabling (some .rising) with mode := .contest, eligible := 0xF, descPresent := true, descAddr := 16 }

/-- Enable off; a posted source; an active level; an armed CONTEST record. -/
theorem test_witness_RouteCommitApplies :
    CommitReady (staged 0 .idle .default) 0 .default false ∧
    CommitReady (staged 63 .disabled (enabling none)) 63 (enabling none) false ∧
    CommitReady (staged 47 .disabled (enabling (some .low))) 47 (enabling (some .low)) true ∧
    CommitReady (staged 5 .idle contesting) 5 contesting false := by
  refine ⟨?_, ?_, ?_, ?_⟩ <;> (unfold CommitReady; decide)

theorem test_witness_DisableByState :
    takesAccesses latched5 0 ∧ (latched5.port 0).state = .online ∧ latched5.lease = some 0 := by decide

theorem test_witness_ResumeReenters :
    takesAccesses (posted49 .suspended [1]) 1 ∧ ((posted49 .suspended [1]).port 1).state = .online ∧
    ((posted49 .suspended [1]).source 49).state = .suspended ∧ (latched5.source 5).state ≠ .suspended := by decide

/-- Source 47; a disabled 48; four and three payloads in queue and claim; IDLE and not. -/
theorem test_witness_PostIsJudgedInOrder :
    takesAccesses hosts 0 ∧ (hosts.port 0).state = .online ∧ (47 : SourceId).val < 48 ∧
    (hosts.source 48).route.enable = false ∧
    (((posted49 .claimed [1, 2, 3]).source 49).payloads.length = 3 ∧
      ∃ c, (posted49 .claimed [1, 2, 3]).claimOf 49 = some c ∧ c.payload ≠ none) ∧
    (((posted49 .claimed [1, 2]).source 49).payloads.length = 2 ∧
      ((posted49 .claimed [1, 2]).source 49).state ≠ .idle ∧ ((posted49 .claimed [1, 2]).source 49).route.enable = true ∧
      takesAccesses (posted49 .claimed [1, 2]) 0 ∧ ((posted49 .claimed [1, 2]).port 0).state = .online) ∧
    ((posted49 .idle []).source 49).state = .idle ∧ ((posted49 .idle []).source 49).route.enable = true := by
  refine ⟨by decide, by decide, by decide, by decide, ⟨by decide, _, rfl, by decide⟩, by decide, by decide, by decide⟩

theorem test_witness_UnpostRemovesCurrentOccurrence :
    takesAccesses hosts 0 ∧ (hosts.port 0).state = .online ∧ (47 : SourceId).val < 48 ∧
    (hosts.source 48).route.enable = false ∧
    (((posted49 .latched [1]).source 49).state = .latched ∧ ((posted49 .latched [1]).source 49).payloads.tail = []) ∧
    (((posted49 .offered [1, 2]).source 49).state = .offered ∧
      ((posted49 .offered [1, 2]).source 49).payloads.tail ≠ []) ∧
    ((posted49 .offered [1, 2]).source 49).route.enable = true ∧ takesAccesses (posted49 .offered [1, 2]) 0 ∧
    ((posted49 .offered [1, 2]).port 0).state = .online := by decide

/-- The premises that every clause shares, for each of the five sources of the clauses. -/
theorem test_witness_UnpostBehindCurrentOccurrence :
    let shared (s : State) : Prop := takesAccesses s 0 ∧ (s.port 0).state = .online ∧
      (s.source 49).route.enable = true ∧ 48 ≤ (49 : SourceId).val ∧ EntryOk s 49 (s.source 49)
    shared (posted49 .claimed [1, 2, 3]) ∧ shared (posted49 .claimed []) ∧ shared (posted49 .suspended [1, 2]) ∧
    shared (posted49 .suspended [1]) ∧ shared (posted49 .idle []) ∧
    ((posted49 .claimed []).source 49).state = .claimed ∧ ((posted49 .suspended [1]).source 49).state = .suspended := by
  refine ⟨?_, ?_, ?_, ?_, ?_, by decide, by decide⟩
  all_goals
    refine ⟨by decide, by decide, by decide, by decide, ?_⟩
    constructor
    case route => exact ⟨by decide, by decide, by decide, by decide, fun a h => nomatch h⟩
    all_goals decide

theorem test_witness_ClaimTakesHeadOffer :
    let s := standing 49 (entry 49 .offered)
    takesAccesses s 0 ∧ (s.port 0).state = .online ∧ s.queue 0 = ⟨49, 4, 7, .none, false⟩ :: [] ∧ s.claimCount 0 < 8 := by
  decide

theorem test_witness_CompleteEndsOccurrence :
    let s := claimed11 none 0 0 true
    takesAccesses s 0 ∧ (s.port 0).state ≠ .offline ∧
    s.claimOf 11 = some { claimFor 11 (entry 11 .claimed) with remaining := none } ∧
    (claimFor 11 (entry 11 .claimed)).port = 0 := by decide

theorem test_witness_ReturnGivesOccurrenceBack :
    let held (s : State) : Prop := takesAccesses s 0 ∧ (s.port 0).state ≠ .offline ∧
      s.claimOf 11 = some { claimFor 11 (entry 11 .claimed) with remaining := none }
    (held (claimed11 none 0 0 true) ∧ ((claimed11 none 0 0 true).source 11).route.enable = true) ∧
    (held (claimed11 none 0 0 false) ∧ ((claimed11 none 0 0 false).source 11).route.enable = false) := by decide

theorem test_witness_ExtendRestartsTimer :
    let held (s : State) (r : Option (BitVec 16)) (k : Fin 4) : Prop := takesAccesses s 0 ∧
      (s.port 0).state ≠ .offline ∧
      s.claimOf 11 = some { claimFor 11 (entry 11 .claimed) with remaining := r, renewals := k }
    held (claimed11 none 0 0 true) none 0 ∧ held (claimed11 (some 1) 3 0 true) (some 1) 3 ∧
    held (claimed11 (some 1) 2 0 true) (some 1) 2 := by decide

theorem test_witness_UnmatchedCommandsChangeNothing :
    (takesAccesses hosts 1 ∧ (hosts.port 1).state ≠ .offline ∧ ∀ c, hosts.claimOf 11 = some c → c.port ≠ 1) ∧
    (∀ c, (claimed11 none 0 0 true).claimOf 11 = some c → c.port ≠ 1) ∧
    (claimed11 none 0 0 true).claimOf 11 = some { claimFor 11 (entry 11 .claimed) with remaining := none } ∧
    (entry 11 .claimed).tag ≠ 8 := by
  refine ⟨⟨by decide, by decide, fun c h => (no_claim (by decide) h).elim⟩, fun c h => ?_, by decide, by decide⟩
  have h0 : (claimed11 none 0 0 true).claimOf 11 = some { claimFor 11 (entry 11 .claimed) with remaining := none } := by
    decide
  rw [h0] at h; cases h; decide

theorem test_witness_TickLowersTimers :
    (hosts.resetNote = none ∧ ∀ n c, hosts.claimOf n = some c → c.remaining ≠ some 0) ∧ inReset.resetNote ≠ none ∧
    ∃ n c, (claimed11 (some 0) 0 0 true).claimOf n = some c ∧ c.remaining = some 0 := by
  exact ⟨⟨by decide, fun n c h => (no_claim (hosts_noClaims n) h).elim⟩, by decide, 11, _, rfl, rfl⟩

/-- Not due at one tick; due with revocation counts 0, 2 (the third expiry) and disable-pending. -/
theorem test_witness_ExpiryRevokesClaim :
    (∀ c, (claimed11 (some 1) 0 0 true).claimOf 11 = some c → c.remaining ≠ some 0) ∧
    (∀ rev ∈ ([0, 1, 2] : List (Fin 4)), ∀ en : Bool, ((claimed11 (some 0) 0 rev en).source 11).revocations.val < 3 ∧
      ((claimed11 (some 0) 0 rev en).source 11).revocations = rev ∧
      ((claimed11 (some 0) 0 rev en).source 11).route.enable = en ∧
      ((claimed11 (some 0) 0 rev en).claimOf 11).map Claim.remaining = some (some 0)) := by
  refine ⟨fun c h => ?_, by decide⟩
  have h0 : (claimed11 (some 1) 0 0 true).claimOf 11 = some { claimFor 11 (entry 11 .claimed) with remaining := some 1 } := by
    decide
  rw [h0] at h; cases h; decide

theorem test_witness_RecordIsStoredOrDropped :
    ({ hosts with faults := List.replicate 15 record } : State).faults.length < 16 ∧
    16 ≤ ({ hosts with faults := List.replicate 16 record } : State).faults.length := by decide

theorem test_witness_FaultReadPopsHead :
    let s : State := { hosts with faults := [record] }
    takesAccesses s 1 ∧ (s.port 1).state ≠ .offline ∧ s.faults = record :: [] := by decide

theorem test_witness_PartResetAsserted : latched5.resetNote = none := by decide

theorem test_witness_ResetReleaseLatchesLevels :
    let s := after .partReset latched5
    s.resetNote = some ⟨none, 0⟩ ∧ s.backlog = [] ∧ (∀ p, s.online p = false) ∧
    ∀ n, (s.source n).state = (if (s.source n).route.enable then .idle else .disabled) ∧
      (s.source n).unserved = false := by decide

theorem test_witness_PortResetRevokesAndWithdraws :
    let s := claimed11 (some 5) 0 0 true
    (hosts.setPortReset 0 true).portResets[(0 : Port)] = true ∧
    (inReset.portResets[(0 : Port)] = false ∧ inReset.resetNote ≠ none) ∧
    takesAccesses s 0 ∧ s.holds 0 11 = true ∧ ∀ n c q, s.claimOf n = some c → s.hasOffer q n = false := by
  have h : ∀ q n, (claimed11 (some 5) 0 0 true).hasOffer q n = false := by decide
  exact ⟨by decide, by decide, by decide, by decide, fun n _ q _ => h q n⟩

/-- An access of P0 held by PRST0 alone, and one of P1 held by RESET. -/
theorem test_witness_PortResetReleaseLetsAccessesThrough :
    (∀ c ∈ ({ hosts.setPortReset 0 true with held := [.join 0] } : State).held,
      ∃ q, accessPort c = some q ∧ ¬takesAccesses (hosts.setPortReset 0 true) q) ∧
    (∀ c ∈ ({ inReset with held := [.join 1] } : State).held,
      ∃ q, accessPort c = some q ∧ ¬takesAccesses inReset q) ∧
    (hosts.setPortReset 0 true).resetNote = none ∧ inReset.resetNote ≠ none := by decide

/-- Each edge setting, and each state that the clauses name, on line 0 and line 47. -/
theorem test_witness_QualifyingEdgeByState :
    (47 : SourceId).val = (47 : LineId).val ∧
    (∀ st ∈ [SourceState.idle, .latched, .offered, .engineWait, .suspended, .claimed, .engineActive],
      ∀ again : Bool, ∀ d ∈ [Detection.rising, .both],
      let e := { entry 47 st with again := again, route := { (entry 47 st).route with detection := some d } }
      (standing 47 e).resetNote = none ∧ (standing 47 e).currentSample.getLsbD (47 : LineId).val ≠ true ∧
      ((standing 47 e).source 47).route.enable = true ∧ ((standing 47 e).source 47).route.detection = some d ∧
      ((standing 47 e).source 47).state = st ∧ ((standing 47 e).source 47).again = again) ∧
    (let e := { entry 0 .idle with route := { (entry 0 .idle).route with detection := some .falling } }
     let s : State := { standing 0 e with currentSample := 1 }
     s.resetNote = none ∧ s.currentSample.getLsbD (0 : LineId).val ≠ false ∧ (s.source 0).route.enable = true ∧
     (s.source 0).route.detection = some .falling) := by decide

theorem test_witness_LevelsAndOtherChanges :
    let high (n : SourceId) (st : SourceState) : SourceEntry :=
      { entry n st with route := { (entry n st).route with detection := some .high } }
    inReset.resetNote ≠ none ∧ (hosts.resetNote = none ∧ hosts.currentSample.getLsbD (47 : LineId).val = false) ∧
    (hosts.source 47).route.enable = false ∧
    ((standing 5 (entry 5 .idle)).source 5).route.detection = some .rising ∧
    (((standing 5 (high 5 .offered)).source 5).state ≠ .idle ∧
      ((standing 5 (high 5 .offered)).source 5).route.detection = some .high) ∧
    ((standing 5 (high 5 .idle)).resetNote = none ∧
      (standing 5 (high 5 .idle)).currentSample.getLsbD (5 : LineId).val ≠ true ∧
      ((standing 5 (high 5 .idle)).source 5).route.enable = true ∧
      ((standing 5 (high 5 .idle)).source 5).route.detection = some .high ∧
      ((standing 5 (high 5 .idle)).source 5).state = .idle) := by decide

/-- An armed entry behind one that waits: source 1 is FIXED at P3, which is OFFLINE; seven sources wait in the engine. -/
def engineCandidate : State :=
  { (standing 15 (armedEntry 15 .latched)).setSource 1
      { entry 1 .latched with route := { (entry 1 .latched).route with eligible := 0b1000#4 } } with
    backlog := [⟨1, 4⟩, ⟨15, 4⟩], engineQueue := [20, 21, 22, 23, 24, 25, 26] }

theorem test_witness_EnginePlacement :
    engineCandidate.backlog = [⟨1, 4⟩] ++ ⟨15, 4⟩ :: [] ∧
    (∀ x ∈ [(⟨1, 4⟩ : BacklogEntry)], engineCandidate.placeOf x.src = none) ∧
    (∀ x ∈ [(⟨1, 4⟩ : BacklogEntry)] ++ [], x.src ≠ 15) ∧ (engineCandidate.source 15).engineBound = true ∧
    engineCandidate.engineQueue.length < 8 := by decide

theorem test_witness_HostPlacement :
    let s : State := { latched5 with backlog := [⟨5, 4⟩] }
    s.backlog = [] ++ ⟨5, 4⟩ :: [] ∧ (s.source 5).engineBound = false ∧ s.hostPlace (s.source 5) ≠ [] ∧
    ∀ x ∈ ([] : List BacklogEntry) ++ [], s.placeOf x.src = none ∧ x.src ≠ 5 := by decide

/-- FIXED, CONTEST and SHARED entries, and a backlog whose only entry waits. -/
theorem test_witness_PlacesOfEntries :
    ((entry 5 .latched).route.mode = .fixed ∧ ∃ q : Port, (entry 5 .latched).route.eligible = BitVec.twoPow 4 q.val) ∧
    (∀ b ∈ ({ engineCandidate with backlog := [⟨1, 4⟩] } : State).backlog,
      ({ engineCandidate with backlog := [⟨1, 4⟩] } : State).placeOf b.src = none) ∧
    (let r : Route := { (entry 5 .latched).route with mode := .shared, eligible := 0b0110#4 }
     hosts.hostPlace { entry 5 .latched with route := r } = [1] ∧
     hosts.hostPlace { entry 5 .latched with route := { r with eligible := 0b1000#4 } } = [] ∧
     hosts.hostPlace { entry 5 .latched with route := { r with mode := .contest } } = [1, 2]) := by decide

theorem test_witness_ServiceStarts :
    let s := standing 15 (armedEntry 15 .engineWait)
    (s.service = none ∧ s.running = true ∧ s.engineQueue = 15 :: [] ∧
      (s.source 15).route.descAddr = some 0x00020000) ∧
    (serving .fetch0).service ≠ none ∧ ({ s with running := false } : State).running = false ∧ hosts.engineQueue = [] := by
  decide

/-- Every fetch phase; a descriptor that passes and one that fails; abort pending. -/
theorem test_witness_FetchAnswers :
    (∀ ph ∈ [Phase.fetch0, .fetch1 0x00080A16, .fetch2 0x00080A16 0x00100000,
        .fetch3 0x00080A16 0x00100000 0x00200000],
      (serving ph).service = some ⟨15, 0x00020000, false, false, ph⟩) ∧
    (∃ w, checkDescriptor 0x00080A16 0x00100000 0x00200000 0x00020011 = .ok w) ∧
    (∃ why, checkDescriptor 0x00080A16 0x00100001 0x00200000 0x00020011 = .error why) ∧
    ({ serving (.fetch3 0x00080A16 0 0) with
        service := some ⟨15, 0x00020000, true, false, .fetch3 0x00080A16 0 0⟩ } : State).service =
      some ⟨15, 0x00020000, true, false, .fetch3 0x00080A16 0 0⟩ :=
  ⟨by decide, ⟨_, rfl⟩, ⟨_, rfl⟩, by decide⟩

/-- Control words with one bad field each, later fields bad as well, and bursts 1 and 16. -/
theorem test_witness_DescriptorCheckInOrder :
    let f (c : Word) (i n : Nat) := (c.extractLsb' i n).toNat
    f 0x00001FFF 0 2 = 3 ∧
    (f 0x0000001E 0 2 = 2 ∧ f 0x0000001E 2 2 = 3) ∧ (f 0x00000032 0 2 = 2 ∧ f 0x00000032 4 2 = 3) ∧
    (f 0x00001816 2 2 = 1 ∧ f 0x00001816 4 2 = 1 ∧ f 0x00001816 11 2 = 3) ∧
    (f 0x00000016 11 2 = 0 ∧ f 0x00000016 6 5 = 0) ∧ f 0x00000456 6 5 = 17 ∧
    (f 0x00000416 6 5 = 16 ∧ f 0x00000416 16 16 = 0) ∧
    (f 0x00010056 6 5 = 1 ∧ f 0x00010056 16 16 = 1) ∧ (0x00100002 : Word).toNat % 2 ^ f 0x00010056 0 2 ≠ 0 ∧
    (0x00100000 : Word).toNat % 2 ^ f 0x00010056 0 2 = 0 := by decide

/-- The last unit of a burst, one before it, and an abort. -/
theorem test_witness_UnitsAreMoved :
    (serving (.moveRead workA)).service = some ⟨15, 0x00020000, false, false, .moveRead workA⟩ ∧
    (serving (.moveWrite { workA with left := 1 } 3)).service =
      some ⟨15, 0x00020000, false, false, .moveWrite { workA with left := 1 } 3⟩ ∧
    1 ≤ ({ workA with left := 1 } : Work).left ∧ 1 ≤ workA.left := by decide

theorem test_witness_BurstMovesEveryUnit :
    let s : State := { serving (.moveRead workA) with
      pending := ([0x11, 0x22] : List Word).flatMap fun d => [.unitReadAnswer (.completed d), .unitWriteAnswer .completed] }
    s.service = some ⟨15, 0x00020000, false, false, .moveRead workA⟩ ∧ 1 ≤ workA.left ∧ workA.left ≤ workA.count.toNat ∧
    ([0x11, 0x22] : List Word).length = workA.left ∧
    s.pending = (([0x11, 0x22] : List Word).flatMap fun d =>
      [Instr.unitReadAnswer (.completed d), .unitWriteAnswer .completed]) ++ [] := by decide

theorem test_witness_AddressSteps : (0xFFFFFFFC : Word).toNat % UnitSize.four.bytes = 0 := by decide

/-- Each word of the writeback; each policy with count 0 and not, with a link and without; move fault and abort. -/
theorem test_witness_WritebackEndsService :
    (∀ k : Fin 3, (serving (.writeback workA k)).service = some ⟨15, 0x00020000, false, false, .writeback workA k⟩) ∧
    (∀ policy count link abort moveFault,
      let v : Service :=
        ⟨15, 0, abort, moveFault, .writeback { workA with policy := policy, count := count, link := link } 2⟩
      ({ hosts with service := some v } : State).service = some v) ∧
    (0 : BitVec 16) ≠ 6 ∧ (0 : Fin 3) ≠ 2 :=
  ⟨by decide, fun _ _ _ _ _ => rfl, by decide, by decide⟩

theorem test_witness_TagAndRouteChangers :
    exec .placement latched5 = .next (after .placement latched5) ∧
    ((after .placement latched5).source 5).tag ≠ (latched5.source 5).tag ∧
    exec (.disable 0 5) latched5 = .next (after (.disable 0 5) latched5) ∧
    ((after (.disable 0 5) latched5).source 5).route ≠ (latched5.source 5).route :=
  ⟨rfl, by decide, rfl, by decide⟩

theorem test_witness_AccessesLeaveOtherPorts :
    Inv latched5 ∧ accessPort (.join 1) = some 1 ∧ (0 : Port) ≠ 1 ∧
    exec (.join 1) latched5 = .next (after (.join 1) latched5) ∧ latched5.lease = some 0 :=
  ⟨test_witness_InvariantKeptByStep.1, by decide, by decide, rfl, by decide⟩

theorem test_witness_ClaimEndsOnlyBy :
    exec (.complete 0 11 7) (claimed11 none 0 0 true) = .next (after (.complete 0 11 7) (claimed11 none 0 0 true)) ∧
    (claimed11 none 0 0 true).claimOf 11 = some { claimFor 11 (entry 11 .claimed) with remaining := none } ∧
    (after (.complete 0 11 7) (claimed11 none 0 0 true)).claimOf 11 = none := ⟨rfl, by decide, by decide⟩

theorem test_witness_OnlyLeaseHolderConfigures :
    exec (.halt 0) hosts = .next (after (.halt 0) hosts) ∧ (after (.halt 0) hosts).running ≠ hosts.running :=
  ⟨rfl, by decide⟩

theorem test_witness_StatusWordLayouts :
    fullPort.claimCount 0 ≤ 8 ∧ (fullPort.queue 0).length ≤ 16 ∧ engineCandidate.engineQueue.length ≤ 8 ∧
    fullPort.engineQueue.length ≤ 8 := by decide

theorem test_witness_ClaimAndOfferWordLayouts :
    hosts.queue 0 = [] ∧
    (let s := hosts.setQueue 0 (List.replicate 16 ⟨5, 4, 7, .none, false⟩)
     s.queue 0 = ⟨5, 4, 7, .none, false⟩ :: List.replicate 15 ⟨5, 4, 7, .none, false⟩ ∧
     (List.replicate 15 (⟨5, 4, 7, .none, false⟩ : Offer)).length < 16) ∧
    (hosts.port 0).claimData = none ∧
    ((after (.claim 0) (standing 49 (entry 49 .offered))).port 0).claimData = some ⟨49, some 0x1234, 0⟩ := by decide

theorem test_witness_FaultWordLayouts :
    (portResetRecord 0 8).detail = .portReset 8 ∧ (8 : Nat) ≤ 8 ∧
    ((after (.fault 1) { hosts with faults := [record] }).port 1).faultData = some 8 := by decide

/-- P0 has selected source 49, whose claim P0 holds. -/
def selected49 : State := (posted49 .claimed [1, 2, 3]).modPort 0 fun r => { r with selected := 49 }

theorem test_witness_RouteStateLayouts :
    (selected49.port 0).selected = 49 ∧ (selected49.source 49).payloads.length ≤ 4 ∧
    (∀ a, (selected49.source 49).route.descAddr = some a → a.toNat % 16 = 0) ∧
    (selected49.source 49).state = .claimed ∧ (selected49.claimOf 49).isSome = true ∧ selected49.divider ≤ 4096 := by
  have h : (selected49.source 49).route.descAddr = none := by decide
  refine ⟨by decide, by decide, fun a ha => ?_, by decide, by decide, by decide⟩
  rw [h] at ha; cases ha

theorem test_witness_AccessDecodesItsCommand :
    Instr.wellFormed (.post 3 63 0xFFFF) = true ∧ accessPort (.post 3 63 0xFFFF) = some 3 ∧
    Instr.wellFormed (.narrowTakeRead 0 .fault 14) = true ∧ accessPort (.narrowTakeRead 0 .fault 14) = some 0 ∧
    (0xFFFFFFC0 : Word) &&& operandBits (.unpost 0 0) = 0 &&& operandBits (.unpost 0 0) := by decide

end Sys2Proof.Tests
end

section
namespace Sys2Proof.Machine
variable (s : State)

/-! ### What each command is -/

theorem exec_powerOn (levels : Levels) :
    exec (.powerOn levels) s = .next { State.powerOn levels with pending := s.held ++ s.pending } := rfl
theorem exec_partReset : exec .partReset s = .next (if s.resetNote.isSome then s else s.assertReset) := rfl
theorem exec_resetRelease (levels : Levels) : exec (.resetRelease levels) s = execResetRelease levels s := rfl
theorem exec_portReset (prst : PortResetInput) : exec (.portReset prst) s =
    .next (if prst.asserted then s.assertPortReset prst.port else (s.setPortReset prst.port false).letThrough) := rfl
theorem exec_lineChange (l : LineId) (level : Bool) : exec (.lineChange l level) s =
    .next (if s.resetNote.isSome then s
      else if s.currentSample.getLsbD l.val = level then s.sampleLine l level
      else ((s.sampleLine l level).judgeChange (lineSource l) level).updateAttention) := rfl
theorem exec_placement : exec .placement s = .next s.place := rfl
theorem exec_tick : exec .tick s = .next (if s.resetNote.isSome || s.expiryDue then s else s.takeTick) := rfl
theorem exec_expiry (n : SourceId) : exec (.expiry n) s = execExpiry n s := rfl
theorem exec_serviceStart : exec .serviceStart s = .next s.startService := rfl
theorem exec_fetchAnswer (a : ReadAnswer) : exec (.fetchAnswer a) s = .next (s.fetchAnswer a).updateAttention := rfl
theorem exec_unitReadAnswer (a : ReadAnswer) :
    exec (.unitReadAnswer a) s = .next (s.unitReadAnswer a).updateAttention := rfl
theorem exec_unitWriteAnswer (a : WriteAnswer) :
    exec (.unitWriteAnswer a) s = .next (s.unitWriteAnswer a).updateAttention := rfl
theorem exec_writebackAnswer (a : WriteAnswer) :
    exec (.writebackAnswer a) s = .next (s.writebackAnswer a).updateAttention := rfl
theorem exec_join (p : Port) : exec (.join p) s = s.command (.join p) p .anyState (State.joinPort p) := rfl
theorem exec_leave (p : Port) : exec (.leave p) s = s.command (.leave p) p .notOffline (State.leavePort p) := rfl
theorem exec_leaseTake (p : Port) :
    exec (.leaseTake p) s = s.command (.leaseTake p) p .onlineOnly (State.takeLease p) := rfl
theorem exec_leaseDrop (p : Port) :
    exec (.leaseDrop p) s = s.command (.leaseDrop p) p .onlineOnly (State.dropLease p) := rfl
theorem exec_routeSelect (p : Port) (n : SourceId) :
    exec (.routeSelect p n) s = s.command (.routeSelect p n) p .onlineOnly (State.selectRoute p n) := rfl
theorem exec_staging0 (p : Port) (w : Word) :
    exec (.staging0 p w) s = s.command (.staging0 p w) p .onlineOnly (State.writeStaging0 p w) := rfl
theorem exec_staging1 (p : Port) (w : Word) :
    exec (.staging1 p w) s = s.command (.staging1 p w) p .onlineOnly (State.writeStaging1 p w) := rfl
theorem exec_routeCommit (p : Port) :
    exec (.routeCommit p) s = s.command (.routeCommit p) p .leaseHolder (State.commitRoute p) := rfl
theorem exec_disable (p : Port) (n : SourceId) :
    exec (.disable p n) s = s.command (.disable p n) p .leaseHolder (State.disableSource n) := rfl
theorem exec_resume (p : Port) (n : SourceId) :
    exec (.resume p n) s = s.command (.resume p n) p .onlineOnly (State.resumeSource n) := rfl
theorem exec_post (p : Port) (n : SourceId) (d : Payload) :
    exec (.post p n d) s = s.command (.post p n d) p .onlineOnly (State.postPayload n d) := rfl
theorem exec_unpost (p : Port) (n : SourceId) :
    exec (.unpost p n) s = s.command (.unpost p n) p .onlineOnly (State.unpostSource n) := rfl
theorem exec_claim (p : Port) : exec (.claim p) s = s.orHold (.claim p) p (State.claimRead p) := rfl
theorem exec_complete (p : Port) (n : SourceId) (tag : Tag) : exec (.complete p n tag) s =
    s.command (.complete p n tag) p .notOffline (State.matchClaim p n tag (State.completeClaim n)) := rfl
theorem exec_returnClaim (p : Port) (n : SourceId) (tag : Tag) : exec (.returnClaim p n tag) s =
    s.command (.returnClaim p n tag) p .notOffline (State.matchClaim p n tag (State.giveBack n)) := rfl
theorem exec_extend (p : Port) (n : SourceId) (tag : Tag) : exec (.extend p n tag) s =
    s.command (.extend p n tag) p .notOffline (State.matchClaim p n tag (State.extendClaim n)) := rfl
theorem exec_floor (p : Port) (v : BitVec 4) :
    exec (.floor p v) s = s.command (.floor p v) p .onlineOnly (State.writeFloor p v) := rfl
theorem exec_faultWatch (p : Port) (on : Bool) :
    exec (.faultWatch p on) s = s.command (.faultWatch p on) p .onlineOnly (State.writeWatch p on) := rfl
theorem exec_tickDivider (p : Port) (v : Word) :
    exec (.tickDivider p v) s = s.command (.tickDivider p v) p .leaseHolder (State.writeDivider v) := rfl
theorem exec_limit (p : Port) (i : Fin 4) (v : Word) :
    exec (.limit p i v) s = s.command (.limit p i v) p .leaseHolder (State.writeLimit i v) := rfl
theorem exec_run (p : Port) :
    exec (.run p) s = s.command (.run p) p .leaseHolder fun s => ({ s with running := true }, .ok) := rfl
theorem exec_halt (p : Port) :
    exec (.halt p) s = s.command (.halt p) p .leaseHolder fun s => ({ s with running := false }, .ok) := rfl
theorem exec_abort (p : Port) : exec (.abort p) s = s.command (.abort p) p .leaseHolder State.abortService := rfl
theorem exec_fault (p : Port) : exec (.fault p) s = s.orHold (.fault p) p (State.faultRead p) := rfl
theorem exec_narrowTakeRead (p : Port) (reg : TakeRegister) (enables : Fin 15) :
    exec (.narrowTakeRead p reg enables) s =
      s.orHold (.narrowTakeRead p reg enables) p fun s => s.returnWord p 0 := rfl
theorem exec_undefinedAccess (p : Port) (a : Access) : exec (.undefinedAccess p a) s =
    if a.undefined then s.orHold (.undefinedAccess p a) p fun s => if a.write then s else s.returnWord p 0
    else .refused .definedAccess := rfl

end Sys2Proof.Machine
end

section
namespace Sys2Proof.Machine

/-! ### The invariant read source by source -/

/-- What the collections hold of one source (R5). -/
@[ext]
structure Places where
  backlog : List BacklogEntry
  offers  : Port → List Offer
  claim   : Option Claim
  queued  : List SourceId
  service : Option Service

/-- The source stands in no collection. -/
def Places.none : Places := ⟨[], fun _ => [], Option.none, [], Option.none⟩

/-- The places of source `n`. -/
def State.places (s : State) (n : SourceId) : Places where
  backlog := s.backlog.filter fun b => b.src == n
  offers  := fun p => (s.queue p).filter fun o => o.src == n
  claim   := s.claimOf n
  queued  := s.engineQueue.filter fun m => m == n
  service := s.service.filter fun v => v.src == n

/-- The places of source `n` agree with its entry (R5, R46, R71, R88, R125). -/
structure PlacesOk (n : SourceId) (e : SourceEntry) (v : Places) : Prop where
  backlog  : v.backlog = if e.state = .latched then [⟨n, e.route.cls⟩] else []
  offers   : ∀ p, v.offers p = [] ∨ (e.state = .offered ∧ e.route.eligibleFor p = true ∧
               ∃ c, v.offers p = [⟨n, e.route.cls, e.tag, e.flags, c⟩])
  offered  : e.state = .offered → ∃ p, v.offers p ≠ []
  contest  : ∀ p q, v.offers p ≠ [] → v.offers q ≠ [] → p ≠ q → e.route.mode = .contest
  claimed  : v.claim.isSome = true ↔ e.state = .claimed
  claim    : ∀ c, v.claim = some c → c.tag = e.tag ∧ c.cls = e.route.cls ∧ c.flags = e.flags ∧
               c.payload.isSome = isPosted n
  unfolded : ∀ c, v.claim = some c → isPosted n = true ∨ e.levelDetected = true → c.fold = 0
  queued   : v.queued = if e.state = .engineWait then [n] else []
  armed    : e.state = .engineWait → e.engineBound = true
  active   : v.service.isSome = true ↔ e.state = .engineActive
  address  : ∀ w, v.service = some w → e.route.descAddr = some w.descAddr

/-- Source `n` meets its part of the invariant. -/
structure SourceOk (s : State) (n : SourceId) : Prop where
  entry  : EntryOk s n (s.source n)
  places : PlacesOk n (s.source n) (s.places n)

/-- The working record and the fault mark of a service fit its phase (R133, R136 to R138, R144). -/
structure ServiceOk (v : Service) : Prop where
  moving : ∀ w, v.phase.work? = some w → v.phase.isWriteback = false → w.moving
  link   : ∀ w a, v.phase.work? = some w → w.link = some a → a.toNat % 16 = 0
  fault  : v.moveFault = true → v.phase.isWriteback = true

/-- What the invariant says of no single source, while RESET is not asserted: rooms, bands, ports, time base, fault
queue and held accesses. -/
structure SharedOk (s : State) : Prop where
  awake      : s.resetNote = none
  bands      : s.backlog.Pairwise fun a b => b.cls ≤ a.cls
  offerRoom  : ∀ p, (s.queue p).length ≤ Config.offerRoom
  offerBands : ∀ p, (s.queue p).Pairwise fun a b => b.cls ≤ a.cls
  online     : ∀ p, s.online p = false → s.queue p = []
  claimRoom  : ∀ p, s.claimCount p ≤ Config.claimRoom
  engineRoom : s.engineQueue.length ≤ Config.engineRoom
  service    : ∀ v, s.service = some v → ServiceOk v
  offline    : ∀ p, (s.port p).state = .offline → s.claimCount p = 0
  draining   : ∀ p, (s.port p).state = .draining → 0 < s.claimCount p
  lease      : ∀ p, s.lease = some p → s.online p = true
  divider    : 1 ≤ s.divider ∧ s.divider ≤ Config.dividerMax
  interval   : 1 ≤ s.interval ∧ s.interval ≤ Config.dividerMax
  prescale   : s.prescale < s.interval
  faults     : s.faults.length ≤ Config.faultRoom
  atReset    : ∀ p : Port, s.portResets[p] = true → s.port p = .default
  held       : ∀ c ∈ s.held, ∃ p, accessPort c = some p ∧ s.portResets[p] = true

/-- The invariant but for the attention outputs and for the sources of `ns`, which stand in no collection: the state of
the part in the middle of a happening that moves these sources. -/
structure OkBut (s : State) (ns : List SourceId) : Prop where
  shared : SharedOk s
  others : ∀ m, m ∉ ns → SourceOk s m
  out    : ∀ n ∈ ns, s.places n = .none

/-! #### The invariant is the sources' parts, the shared part and the attention outputs -/

variable {s t : State}

theorem nodup_map_of_filter_eq {α : Type} (f : α → SourceId) {l : List α}
    (h : ∀ n, (l.filter fun x => f x == n).length ≤ 1) : (l.map f).Nodup := by
  refine List.nodup_iff_count_le_one.mpr fun n => ?_
  rw [List.count, List.countP_map, List.countP_eq_length_filter]
  exact h n

theorem filter_src_length_le_one {α : Type} (f : α → SourceId) {l : List α} (h : (l.map f).Nodup) (n : SourceId) :
    (l.filter fun x => f x == n).length ≤ 1 := by
  have := List.nodup_iff_count_le_one.mp h n
  rwa [List.count, List.countP_map, List.countP_eq_length_filter] at this

/-- In a list that holds each source once, the part of a source with element `a` is `[a]`. -/
theorem filter_src_eq_singleton {α : Type} (f : α → SourceId) {l : List α} (h : (l.map f).Nodup) {a : α} (ha : a ∈ l) :
    (l.filter fun x => f x == f a) = [a] := by
  have hm : a ∈ l.filter fun x => f x == f a := by simp [ha]
  have hl := filter_src_length_le_one f h (f a)
  match hf : l.filter fun x => f x == f a with
  | [] => simp [hf] at hm
  | [b] => simp [hf] at hm; rw [hm]
  | _ :: _ :: _ => simp [hf] at hl

theorem filter_src_eq_nil {α : Type} (f : α → SourceId) {l : List α} {n : SourceId} :
    (l.filter fun x => f x == n) = [] ↔ n ∉ l.map f := by
  simp [List.filter_eq_nil_iff]

end Sys2Proof.Machine
end

section
namespace Sys2Proof.Machine
variable {s t : State}

theorem State.mem_backlog_src {n : SourceId} : n ∈ s.backlog.map BacklogEntry.src ↔ (s.places n).backlog ≠ [] := by
  rw [State.places, Ne, filter_src_eq_nil, not_not]

theorem State.hasOffer_iff {p : Port} {n : SourceId} : s.hasOffer p n = true ↔ (s.places n).offers p ≠ [] := by
  rw [State.places, Ne, filter_src_eq_nil, not_not]
  simp [State.hasOffer]

theorem State.mem_engineQueue {n : SourceId} : n ∈ s.engineQueue ↔ (s.places n).queued ≠ [] := by
  simp [State.places, List.filter_eq_nil_iff]

theorem State.service_places_isSome {n : SourceId} :
    (s.places n).service.isSome = true ↔ ∃ v, s.service = some v ∧ v.src = n := by
  cases hv : s.service <;> simp [State.places, hv, Option.filter, Option.isSome_iff_exists]

theorem State.service_places_eq {n : SourceId} {v : Service} :
    (s.places n).service = some v ↔ s.service = some v ∧ v.src = n := by
  simp [State.places, Option.filter_eq_some_iff]

/-- The collections' invariant, read at one source. -/
theorem Inv.placesOk (h : Inv s) (n : SourceId) : PlacesOk n (s.source n) (s.places n) where
  backlog := by
    split
    · rename_i hl
      obtain ⟨b, hb, rfl⟩ := List.mem_map.mp ((h.backlog.latched n).mp hl)
      rw [← h.backlog.classes b hb]
      exact filter_src_eq_singleton _ h.backlog.nodup hb
    · rename_i hl
      exact (filter_src_eq_nil _).mpr fun hm => hl ((h.backlog.latched n).mpr hm)
  offers p := by
    refine or_iff_not_imp_left.mpr fun hne => ?_
    obtain ⟨o, ho, rfl⟩ := List.mem_map.mp (not_not.mp (mt (filter_src_eq_nil _).mpr hne))
    obtain ⟨hst, hcls, htag, hflags, hel⟩ := h.offers.agree p o ho
    refine ⟨hst, hel, o.contest, ?_⟩
    rw [← hcls, ← htag, ← hflags]
    exact filter_src_eq_singleton _ (h.offers.nodup p) ho
  offered hst := by
    obtain ⟨p, hp⟩ := h.offers.offered n hst
    exact ⟨p, State.hasOffer_iff.mp hp⟩
  contest p q hp hq := h.offers.contest n p q (State.hasOffer_iff.mpr hp) (State.hasOffer_iff.mpr hq)
  claimed := h.claims.claimed n
  claim := h.claims.agree n
  unfolded := h.claims.unfolded n
  queued := by
    split
    · rename_i hw
      have hm := (h.engine.waiting n).mp hw
      have := filter_src_eq_singleton id (by simpa using h.engine.nodup) hm
      simpa [State.places] using this
    · rename_i hw
      exact not_not.mp (mt State.mem_engineQueue.mpr (mt (h.engine.waiting n).mpr hw))
  armed := h.engine.armed n
  active := by rw [State.service_places_isSome, h.engine.active n]
  address w hw := by
    obtain ⟨hv, rfl⟩ := State.service_places_eq.mp hw
    exact h.engine.address w hv

theorem Inv.sharedOk (h : Inv s) (awake : s.resetNote = none) : SharedOk s where
  awake := awake
  bands := h.backlog.ordered
  offerRoom := h.offers.room
  offerBands := h.offers.ordered
  online := h.offers.online
  claimRoom := h.claims.room
  engineRoom := h.engine.room
  service v hv := ⟨fun w => h.engine.moving v w hv, fun w a => h.engine.link v w a hv, h.engine.fault v hv⟩
  offline := h.ports.offline
  draining := h.ports.draining
  lease := h.ports.lease
  divider := h.time.divider
  interval := h.time.interval
  prescale := h.time.prescale
  faults := h.faults
  atReset := h.reset.port
  held c hc := by
    obtain ⟨p, hp, hh⟩ := h.reset.held c hc
    exact ⟨p, hp, by simpa [takesAccesses, awake] using hh⟩

theorem Inv.okBut (h : Inv s) (awake : s.resetNote = none) : OkBut s [] where
  shared := h.sharedOk awake
  others n _ := ⟨h.entries n, h.placesOk n⟩
  out := by simp

theorem OkBut.source (h : OkBut s []) (n : SourceId) : SourceOk s n := h.others n (by simp)

theorem OkBut.backlogOk (h : OkBut s []) : BacklogOk s := by
  have hpl := fun n => (h.source n).places.backlog
  refine ⟨nodup_map_of_filter_eq _ fun n => ?_, h.shared.bands, fun b hb => ?_, fun n => ?_⟩
  · change (s.places n).backlog.length ≤ 1
    rw [hpl n]; split <;> simp
  · have hm : b ∈ (s.places b.src).backlog := by simp [State.places, hb]
    rw [hpl] at hm
    split at hm
    · rw [List.mem_singleton] at hm
      rw [hm]
    · simp at hm
  · rw [State.mem_backlog_src, hpl n]; simp

theorem OkBut.offersOk (h : OkBut s []) : OffersOk s where
  room := h.shared.offerRoom
  nodup p := nodup_map_of_filter_eq _ fun n => by
    change ((s.places n).offers p).length ≤ 1
    rcases (h.source n).places.offers p with ho | ⟨-, -, c, ho⟩ <;> rw [ho] <;> simp
  ordered := h.shared.offerBands
  online := h.shared.online
  agree p o ho := by
    have hm : o ∈ (s.places o.src).offers p := by simp [State.places, ho]
    rcases (h.source o.src).places.offers p with he | ⟨hst, hel, c, he⟩
    · simp [he] at hm
    · rw [he, List.mem_singleton] at hm
      exact ⟨hst, congrArg Offer.cls hm, congrArg Offer.tag hm, congrArg Offer.flags hm, hel⟩
  offered n hst := by
    obtain ⟨p, hp⟩ := (h.source n).places.offered hst
    exact ⟨p, State.hasOffer_iff.mpr hp⟩
  contest n p q hp hq :=
    (h.source n).places.contest p q (State.hasOffer_iff.mp hp) (State.hasOffer_iff.mp hq)

theorem OkBut.engineOk (h : OkBut s []) : EngineOk s where
  room := h.shared.engineRoom
  nodup := by
    have := nodup_map_of_filter_eq id (l := s.engineQueue) fun n => by
      change ((s.places n).queued).length ≤ 1
      rw [(h.source n).places.queued]; split <;> simp
    simpa using this
  waiting n := by rw [State.mem_engineQueue, (h.source n).places.queued]; simp
  active n := by rw [← State.service_places_isSome, (h.source n).places.active]
  armed n := (h.source n).places.armed
  address v hv := (h.source v.src).places.address v (State.service_places_eq.mpr ⟨hv, rfl⟩)
  moving v w hv := (h.shared.service v hv).moving w
  link v w a hv := (h.shared.service v hv).link w a
  fault v hv := (h.shared.service v hv).fault

/-- A state of the part whose attention outputs follow meets the invariant. -/
theorem OkBut.inv (h : OkBut s []) (ha : AttnOk s) : Inv s where
  backlog := h.backlogOk
  offers := h.offersOk
  claims :=
    { claimed := fun n => (h.source n).places.claimed
      room := h.shared.claimRoom
      agree := fun n => (h.source n).places.claim
      unfolded := fun n => (h.source n).places.unfolded }
  engine := h.engineOk
  ports := ⟨h.shared.offline, h.shared.draining, h.shared.lease⟩
  entries n := (h.source n).entry
  time := ⟨h.shared.divider, h.shared.interval, h.shared.prescale⟩
  attn := ha
  faults := h.shared.faults
  reset :=
    { empty := by simp [h.shared.awake]
      port := h.shared.atReset
      held := fun c hc => by
        obtain ⟨p, hp, hh⟩ := h.shared.held c hc
        exact ⟨p, hp, by simp [takesAccesses, hh]⟩ }

end Sys2Proof.Machine
end

section
namespace Sys2Proof.Machine
variable {s t : State}

/-! ### Attention outputs -/

theorem State.attention_iff (p : Port) : s.attention p = true ↔
    ((s.port p).state = .online ∧ ∃ o ∈ s.queue p, (s.port p).floor.val ≤ o.cls.val) ∨
      (((s.port p).state = .online ∨ (s.port p).state = .draining) ∧ (s.port p).faultWatch = true ∧ s.faults ≠ []) := by
  simp [State.attention, offerPart, faultPart, State.port, State.queue, and_assoc]

/-- The outputs follow their conditions (R85, R86). -/
theorem attnOk_iff : AttnOk s ↔ ∀ p : Port, s.attn[p] = s.attention p := by
  simp only [AttnOk, ← State.attention_iff, Bool.coe_iff_coe]

@[simp] theorem attnOk_updateAttention : AttnOk s.updateAttention :=
  attnOk_iff.mpr fun p => by rw [State.attn_updateAttention, State.attention_updateAttention]

/-- The outputs follow as long as nothing that their conditions read has changed (R85). -/
theorem AttnOk.congr (h : AttnOk s) (hattn : t.attn = s.attn)
    (hport : ∀ p, (t.port p).state = (s.port p).state ∧ (t.port p).floor = (s.port p).floor ∧
      (t.port p).faultWatch = (s.port p).faultWatch)
    (hqueue : ∀ p, t.queue p = s.queue p) (hfaults : t.faults = s.faults) : AttnOk t := by
  intro p
  obtain ⟨hst, hfl, hw⟩ := hport p
  rw [hattn, hst, hfl, hw, hqueue p, hfaults]
  exact h p

theorem AttnOk.setResult (h : AttnOk s) (p : Port) (c : Result) : AttnOk (s.setResult p c) := by
  refine h.congr rfl (fun q => ?_) (fun _ => rfl) rfl
  rw [State.setResult_eq, State.port_modPort]
  split <;> simp_all

/-! ### Moving a source from collection to collection -/

theorem EntryOk.congr {n : SourceId} {e : SourceEntry} (h : EntryOk s n e)
    (hc : (t.claimOf n).isSome = (s.claimOf n).isSome) : EntryOk t n e :=
  { h with payloads := by rw [hc]; exact h.payloads }

theorem SourceOk.congr {n : SourceId} (h : SourceOk s n) (hs : t.source n = s.source n)
    (hp : t.places n = s.places n) : SourceOk t n := by
  refine ⟨?_, ?_⟩
  · rw [hs]
    exact h.entry.congr (congrArg (fun v => v.claim.isSome) hp)
  · rw [hs, hp]
    exact h.places

/-- A happening that leaves the sources outside `ms` as they were, and the sources of `ms` in no collection. -/
theorem OkBut.takeOut {ns ms : List SourceId} (h : OkBut s ns) (hs : SharedOk t)
    (same : ∀ m, m ∉ ms → m ∉ ns ∧ t.source m = s.source m ∧ t.places m = s.places m)
    (out : ∀ n ∈ ms, t.places n = .none) : OkBut t ms where
  shared := hs
  others m hm := by
    obtain ⟨hn, hsrc, hpl⟩ := same m hm
    exact (h.others m hn).congr hsrc hpl
  out := out

/-- A happening that puts source `n` where its entry says and leaves the other sources as they were. -/
theorem OkBut.putIn {n : SourceId} (h : OkBut s [n]) (hs : SharedOk t)
    (same : ∀ m, m ≠ n → t.source m = s.source m ∧ t.places m = s.places m) (hn : SourceOk t n) : OkBut t [] where
  shared := hs
  others m _ := by
    by_cases hm : m = n
    · exact hm ▸ hn
    · exact (h.others m (by simpa using hm)).congr (same m hm).1 (same m hm).2
  out := by simp

theorem OkBut.mono {n : SourceId} (h : OkBut s []) (hn : s.places n = .none) : OkBut s [n] :=
  h.takeOut h.shared (fun _ _ => ⟨by simp, rfl, rfl⟩) (by simpa using hn)

/-- One source's entry and places are edited together, and no other source's. -/
theorem OkBut.edit {n : SourceId} (h : OkBut s []) (hs : SharedOk t)
    (same : ∀ m, m ≠ n → t.source m = s.source m ∧ t.places m = s.places m) (hn : SourceOk t n) : OkBut t [] where
  shared := hs
  others m _ := by
    by_cases hm : m = n
    · exact hm ▸ hn
    · exact (h.source m).congr (same m hm).1 (same m hm).2
  out := by simp

/-! ### Places after the updates of the state -/

section
variable (s)
@[simp] theorem State.places_setSource (n m : SourceId) (e : SourceEntry) : (s.setSource n e).places m = s.places m := rfl
@[simp] theorem State.places_modPort (p : Port) (f : PortRegs → PortRegs) (m : SourceId) :
    (s.modPort p f).places m = s.places m := rfl
@[simp] theorem State.places_setResult (p : Port) (c : Result) (m : SourceId) :
    (s.setResult p c).places m = s.places m := rfl
@[simp] theorem State.places_returnWord (p : Port) (w : Word) (m : SourceId) :
    (s.returnWord p w).places m = s.places m := rfl
@[simp] theorem State.places_updateAttention (m : SourceId) : s.updateAttention.places m = s.places m := rfl
@[simp] theorem State.places_handRecord (r : FaultRecord) (m : SourceId) :
    (s.handRecord r).places m = s.places m := by
  simp [State.places]
@[simp] theorem State.places_unservedCheck (n m : SourceId) : (s.unservedCheck n).places m = s.places m := by
  simp [State.places]

theorem State.places_dropEntry (n m : SourceId) :
    (s.dropEntry n).places m = { s.places m with backlog := if m = n then [] else (s.places m).backlog } := by
  unfold State.places
  congr 1
  split
  · simp_all [State.dropEntry, List.filter_filter, List.filter_eq_nil_iff]
  · simp only [State.dropEntry, List.filter_filter]
    exact List.filter_congr fun b _ => by by_cases hb : b.src = m <;> simp_all

theorem State.places_withdraw (f : Port → Bool) (n m : SourceId) :
    (s.withdraw f n).places m =
      { s.places m with offers := fun p => if m = n ∧ f p = true then [] else (s.places m).offers p } := by
  unfold State.places
  congr 1
  funext p
  rw [State.queue_withdraw]
  by_cases hf : f p = true <;> simp only [hf, if_true, if_false, and_true, and_false, Bool.false_eq_true, List.filter_filter]
  by_cases hm : m = n
  · simp [hm, List.filter_eq_nil_iff]
  · rw [if_neg hm]
    exact List.filter_congr fun b _ => by by_cases hb : b.src = m <;> simp_all

theorem State.places_setQueue (p : Port) (q : List Offer) (m : SourceId) :
    (s.setQueue p q).places m =
      { s.places m with offers := fun r => if p = r then q.filter (fun o => o.src == m) else (s.places m).offers r } := by
  unfold State.places
  congr 1
  funext r
  rw [State.queue_setQueue]
  split <;> rfl

theorem State.places_setClaim (n m : SourceId) (c : Option Claim) :
    (s.setClaim n c).places m = { s.places m with claim := if n = m then c else (s.places m).claim } := by
  simp [State.places, State.claimOf_setClaim]

theorem State.places_removeClaim (n m : SourceId) (p : Port) :
    (s.removeClaim n p).places m = { s.places m with claim := if n = m then none else (s.places m).claim } := by
  simp [State.places, State.claimOf_removeClaim]
theorem State.places_withService (sv : Option Service) (m : SourceId) :
    ({ s with service := sv } : State).places m = { s.places m with service := sv.filter fun v => v.src == m } := rfl

theorem State.places_withEngineQueue (q : List SourceId) (m : SourceId) :
    ({ s with engineQueue := q } : State).places m = { s.places m with queued := q.filter fun k => k == m } := rfl
end

theorem filter_insertBack_of_neg {α : Type} (cls : α → SourceClass) (p : α → Bool) (a : α) (l : List α)
    (ha : p a = false) : (insertBack cls a l).filter p = l.filter p := by
  induction l with
  | nil => simp [insertBack, ha]
  | cons x xs ih =>
    unfold insertBack
    split
    · simp [List.filter_cons, ih]
    · simp [List.filter_cons, ha]

theorem filter_insertFront_of_neg {α : Type} (cls : α → SourceClass) (p : α → Bool) (a : α) (l : List α)
    (ha : p a = false) : (insertFront cls a l).filter p = l.filter p := by
  induction l with
  | nil => simp [insertFront, ha]
  | cons x xs ih =>
    unfold insertFront
    split
    · simp [List.filter_cons, ih]
    · simp [List.filter_cons, ha]

theorem filter_insertBack_of_pos {α : Type} (cls : α → SourceClass) (p : α → Bool) (a : α) (l : List α)
    (ha : p a = true) (hl : l.filter p = []) : (insertBack cls a l).filter p = [a] := by
  have := (insertBack_perm cls a l).filter p
  rwa [List.filter_cons_of_pos ha, hl, List.perm_singleton] at this

theorem filter_insertFront_of_pos {α : Type} (cls : α → SourceClass) (p : α → Bool) (a : α) (l : List α)
    (ha : p a = true) (hl : l.filter p = []) : (insertFront cls a l).filter p = [a] := by
  have := (insertFront_perm cls a l).filter p
  rwa [List.filter_cons_of_pos ha, hl, List.perm_singleton] at this

end Sys2Proof.Machine
end

section
namespace Sys2Proof.Machine
variable {s t : State}

/-! ### Counting claims -/

/-- Two counts over a list without repetition that differ at one element. -/
theorem countP_update {α : Type} {f g : α → Bool} {n : α} {l : List α} (hl : l.Nodup) (hn : n ∈ l)
    (hfg : ∀ m, m ≠ n → f m = g m) :
    l.countP f + (if g n then 1 else 0) = l.countP g + (if f n then 1 else 0) := by
  induction l with
  | nil => simp at hn
  | cons x xs ih =>
    obtain ⟨hx, hxs⟩ := List.nodup_cons.mp hl
    rw [List.countP_cons, List.countP_cons]
    by_cases hxn : x = n
    · subst hxn
      rw [List.countP_congr fun m hm => by rw [hfg m (fun h => hx (h ▸ hm))]]
      omega
    · have := ih hxs ((List.mem_cons.mp hn).resolve_left fun h => hxn h.symm)
      rw [hfg x hxn]
      omega

theorem State.holds_iff {p : Port} {n : SourceId} : s.holds p n = true ↔ ∃ c, s.claimOf n = some c ∧ c.port = p := by
  unfold State.holds
  cases s.claimOf n <;> simp

theorem State.holds_congr {p : Port} {n : SourceId} (h : t.claimOf n = s.claimOf n) : t.holds p n = s.holds p n := by
  simp only [State.holds, h]

theorem State.mem_allSources (n : SourceId) : n ∈ allSources := List.mem_finRange n

theorem State.claimCount_update {p : Port} {n : SourceId} (h : ∀ m, m ≠ n → t.claimOf m = s.claimOf m) :
    t.claimCount p + (if s.holds p n then 1 else 0) = s.claimCount p + (if t.holds p n then 1 else 0) :=
  countP_update (List.nodup_finRange 64) (State.mem_allSources n) fun m hm => State.holds_congr (h m hm)

theorem State.claimCount_pos {p : Port} {n : SourceId} (h : s.holds p n = true) : 0 < s.claimCount p :=
  List.countP_pos_iff.mpr ⟨n, State.mem_allSources n, h⟩

theorem State.claimCount_eq_zero {p : Port} : s.claimCount p = 0 ↔ ∀ n, s.holds p n = false := by
  simp [State.claimCount, List.countP_eq_zero, State.mem_allSources]

/-- The claim table without the claim of source `n`. -/
theorem State.claimCount_setClaim_none (p : Port) (n : SourceId) :
    (s.setClaim n none).claimCount p = s.claimCount p - (if s.holds p n then 1 else 0) := by
  have := State.claimCount_update (s := s) (t := s.setClaim n none) (p := p) (n := n)
    fun m hm => State.claimOf_setClaim_ne s n m none hm
  have hh : (s.setClaim n none).holds p n = false := by simp [State.holds]
  rw [hh] at this
  simp at this
  omega

theorem State.claimOf_mono_count {p : Port} {n : SourceId} {c : Claim} (h : s.claimOf n = none) :
    (s.setClaim n (some c)).claimCount p = s.claimCount p + (if c.port = p then 1 else 0) := by
  have := State.claimCount_update (s := s) (t := s.setClaim n (some c)) (p := p) (n := n)
    fun m hm => State.claimOf_setClaim_ne s n m _ hm
  simpa [State.holds, h] using this

/-! ### The shared part after the updates of the state -/

namespace SharedOk

theorem setSource (h : SharedOk s) (n : SourceId) (e : SourceEntry) : SharedOk (s.setSource n e) := { h with }

theorem updateAttention (h : SharedOk s) : SharedOk s.updateAttention := { h with }

theorem returnWord (h : SharedOk s) (p : Port) (w : Word) : SharedOk (s.returnWord p w) := { h with }

theorem handRecord (h : SharedOk s) (r : FaultRecord) : SharedOk (s.handRecord r) := by
  by_cases hf : s.faults.length < Config.faultRoom
  · rw [State.handRecord_stored s r hf]
    exact { h with faults := by simpa using hf }
  · rw [State.handRecord_dropped s r (not_lt.mp hf)]
    exact { h with }

theorem unservedCheck (h : SharedOk s) (n : SourceId) : SharedOk (s.unservedCheck n) := by
  unfold State.unservedCheck
  split
  · exact (h.handRecord _).setSource n _
  · exact h

/-- Every edit of the backlog that keeps its bands. -/
theorem withBacklog (h : SharedOk s) {b : List BacklogEntry} (hb : b.Pairwise fun a b => b.cls ≤ a.cls) :
    SharedOk { s with backlog := b } := { h with bands := hb }

theorem dropEntry (h : SharedOk s) (n : SourceId) : SharedOk (s.dropEntry n) :=
  h.withBacklog (h.bands.filter _)

/-- Queues that only lose offers. -/
theorem withdraw (h : SharedOk s) (f : Port → Bool) (n : SourceId) : SharedOk (s.withdraw f n) :=
  have hsub : ∀ p, ((s.withdraw f n).queue p).Sublist (s.queue p) := fun p => by
    rw [State.queue_withdraw]
    split
    · exact List.filter_sublist
    · exact List.Sublist.refl _
  { h with
    offerRoom := fun p => (hsub p).length_le.trans (h.offerRoom p)
    offerBands := fun p => (h.offerBands p).sublist (hsub p)
    online := fun p hp => List.sublist_nil.mp (h.online p hp ▸ hsub p) }

theorem setQueue (h : SharedOk s) (p : Port) {q : List Offer} (hroom : q.length ≤ Config.offerRoom)
    (hbands : q.Pairwise fun a b => b.cls ≤ a.cls) (honline : s.online p = false → q = []) :
    SharedOk (s.setQueue p q) :=
  { h with
    offerRoom := fun r => by
      rw [State.queue_setQueue]; split
      · exact hroom
      · exact h.offerRoom r
    offerBands := fun r => by
      rw [State.queue_setQueue]; split
      · exact hbands
      · exact h.offerBands r
    online := fun r hr => by
      rw [State.queue_setQueue]; split
      · rename_i hpr; subst hpr; exact honline hr
      · exact h.online r hr }

theorem withEngineQueue (h : SharedOk s) {q : List SourceId} (hq : q.length ≤ Config.engineRoom) :
    SharedOk { s with engineQueue := q } := { h with engineRoom := hq }

theorem withService (h : SharedOk s) {v : Option Service} (hv : ∀ w, v = some w → ServiceOk w) :
    SharedOk { s with service := v } := { h with service := hv }

/-- A port setting other than the port state is written at a port that takes accesses. -/
theorem modPort (h : SharedOk s) (p : Port) (f : PortRegs → PortRegs) (hp : s.portResets[p] = false)
    (hf : (f (s.port p)).state = (s.port p).state) : SharedOk (s.modPort p f) := by
  have hst : ∀ q, ((s.modPort p f).port q).state = (s.port q).state := fun q => by
    rw [State.port_modPort]; split
    · rename_i hq; rw [hf, hq]
    · rfl
  exact { h with
    online := fun q hq => h.online q (by simpa [State.online, hst] using hq)
    offline := fun q hq => h.offline q (by rwa [hst] at hq)
    draining := fun q hq => h.draining q (by rwa [hst] at hq)
    lease := fun q hq => by simpa [State.online, hst] using h.lease q hq
    atReset := fun q hq => by
      rw [State.port_modPort_ne s p q f (fun hqp => by simp_all)]
      exact h.atReset q hq }

/-- The claim of source `n` ends, and with it the draining of its port when it was the last (R103, R158). -/
theorem removeClaim (h : SharedOk s) {n : SourceId} {c : Claim} (hc : s.claimOf n = some c) :
    SharedOk (s.removeClaim n c.port) := by
  have hheld : 0 < s.claimCount c.port := State.claimCount_pos (State.holds_iff.mpr ⟨c, hc, rfl⟩)
  have hcount : ∀ q, (s.setClaim n none).claimCount q = s.claimCount q - if c.port = q then 1 else 0 := fun q => by
    rw [State.claimCount_setClaim_none]
    simp [State.holds, hc]
  have hle : ∀ q, (s.setClaim n none).claimCount q ≤ s.claimCount q := fun q => by rw [hcount]; omega
  have hoff : ∀ q, (s.port q).state = .offline → (s.setClaim n none).claimCount q = 0 := fun q hq => by
    have := h.offline q hq
    have := hle q
    omega
  unfold State.removeClaim
  dsimp only
  split
  · rename_i hlast
    obtain ⟨hdr, hzero⟩ : (s.port c.port).state = .draining ∧ (s.setClaim n none).claimCount c.port = 0 := by
      simpa using hlast
    refine { h with
      claimRoom := fun q => (hle q).trans (h.claimRoom q)
      online := ?online, offline := ?offline, draining := ?draining, lease := ?lease, atReset := ?atReset }
    case online =>
      intro q hq
      refine h.online q ?_
      by_cases hqc : q = c.port
      · subst hqc; simp [State.online, hdr]
      · rwa [State.online, State.port_modPort_ne _ _ _ _ hqc] at hq
    case offline =>
      intro q hq
      by_cases hqc : q = c.port
      · subst hqc; exact hzero
      · rw [State.port_modPort_ne _ _ _ _ hqc] at hq
        exact hoff q hq
    case draining =>
      intro q hq
      by_cases hqc : q = c.port
      · subst hqc; simp at hq
      · rw [State.port_modPort_ne _ _ _ _ hqc] at hq
        have := h.draining q hq
        have := hcount q
        rw [if_neg (Ne.symm hqc)] at this
        change 0 < (s.setClaim n none).claimCount q
        omega
    case lease =>
      intro q hq
      have := h.lease q hq
      by_cases hqc : q = c.port
      · subst hqc; simp [State.online, hdr] at this
      · rwa [State.online, State.port_modPort_ne _ _ _ _ hqc]
    case atReset =>
      intro q hq
      have := h.atReset q hq
      by_cases hqc : q = c.port
      · subst hqc; rw [this] at hdr; cases hdr
      · rwa [State.port_modPort_ne _ _ _ _ hqc]
  · rename_i hmore
    refine { h with claimRoom := fun q => (hle q).trans (h.claimRoom q), offline := hoff, draining := fun q hq => ?_ }
    have := h.draining q hq
    by_cases hqc : q = c.port
    · subst hqc
      have hne : (s.setClaim n none).claimCount c.port ≠ 0 := fun hz => hmore (by
        have hq : (s.port c.port).state = .draining := hq
        simp [hq, hz])
      omega
    · have := hcount q
      rw [if_neg (Ne.symm hqc)] at this
      omega

end SharedOk

end Sys2Proof.Machine
end

section
namespace Sys2Proof.Machine
variable {s t : State}

/-! ### Out of a collection -/

namespace PlacesOk

variable {n : SourceId} {e : SourceEntry} {v : Places}

theorem offers_eq (h : PlacesOk n e v) (hst : e.state ≠ .offered) : v.offers = fun _ => [] :=
  funext fun p => (h.offers p).resolve_right fun ho => hst ho.1

theorem claim_eq (h : PlacesOk n e v) (hst : e.state ≠ .claimed) : v.claim = none :=
  Option.not_isSome_iff_eq_none.mp fun hc => hst (h.claimed.mp hc)

theorem service_eq (h : PlacesOk n e v) (hst : e.state ≠ .engineActive) : v.service = none :=
  Option.not_isSome_iff_eq_none.mp fun hv => hst (h.active.mp hv)

/-- A source stands in the collection of its state alone (R5). -/
theorem eq_of_state (h : PlacesOk n e v) :
    v = match e.state with
      | .latched => { Places.none with backlog := v.backlog }
      | .offered => { Places.none with offers := v.offers }
      | .claimed => { Places.none with claim := v.claim }
      | .engineWait => { Places.none with queued := v.queued }
      | .engineActive => { Places.none with service := v.service }
      | .disabled | .idle | .suspended => .none := by
  have hb := h.backlog
  have ho := h.offers_eq
  have hc := h.claim_eq
  have hq := h.queued
  have hv := h.service_eq
  revert hb ho hc hq hv
  cases e.state <;> intro hb ho hc hq hv <;> ext1 <;> simp_all [Places.none]

/-- A source in no state that has a collection stands in none (R5). -/
theorem eq_none (h : PlacesOk n e v) (hst : e.state = .idle ∨ e.state = .disabled ∨ e.state = .suspended) :
    v = .none := by
  rw [h.eq_of_state]
  rcases hst with hst | hst | hst <;> rw [hst]

/-- In no collection, a source agrees with an entry in IDLE, DISABLED or SUSPENDED. -/
theorem of_none (hst : e.state = .idle ∨ e.state = .disabled ∨ e.state = .suspended) : PlacesOk n e .none where
  backlog := by rcases hst with h | h | h <;> simp [h, Places.none]
  offers p := .inl rfl
  offered := by rcases hst with h | h | h <;> simp [h]
  contest := by simp [Places.none]
  claimed := by rcases hst with h | h | h <;> simp [h, Places.none]
  claim := by simp [Places.none]
  unfolded := by simp [Places.none]
  queued := by rcases hst with h | h | h <;> simp [h, Places.none]
  armed := by rcases hst with h | h | h <;> simp [h]
  active := by rcases hst with h | h | h <;> simp [h, Places.none]
  address := by simp [Places.none]

/-- In the backlog and no other collection, a source agrees with a LATCHED entry. -/
theorem of_backlog (hst : e.state = .latched) (hv : v = { Places.none with backlog := [⟨n, e.route.cls⟩] }) :
    PlacesOk n e v := by
  subst hv
  constructor <;> simp [Places.none, hst]

end PlacesOk

namespace OkBut

variable {n : SourceId} {ns : List SourceId}

theorem handRecord (h : OkBut s ns) (r : FaultRecord) : OkBut (s.handRecord r) ns :=
  h.takeOut (h.shared.handRecord r) (fun _ hm => ⟨hm, by simp, by simp⟩) fun m hm => by simpa using h.out m hm

/-- The entry of a source that stands in no collection may be written. -/
theorem setSource (h : OkBut s [n]) (e : SourceEntry) : OkBut (s.setSource n e) [n] :=
  h.takeOut (h.shared.setSource n e)
    (fun m hm => ⟨hm, State.source_setSource_ne s n m e (by simpa using hm), rfl⟩) fun m hm => h.out m hm

theorem updateAttention (h : OkBut s ns) : OkBut s.updateAttention ns :=
  h.takeOut h.shared.updateAttention (fun _ hm => ⟨hm, rfl, rfl⟩) fun m hm => h.out m hm

theorem modPort (h : OkBut s ns) (p : Port) (f : PortRegs → PortRegs) (hp : s.portResets[p] = false)
    (hf : (f (s.port p)).state = (s.port p).state) : OkBut (s.modPort p f) ns :=
  h.takeOut (h.shared.modPort p f hp hf) (fun _ hm => ⟨hm, rfl, rfl⟩) fun m hm => h.out m hm

theorem claimOf_eq (h : OkBut s [n]) : s.claimOf n = none := congrArg Places.claim (h.out n (by simp))

theorem outside (h : OkBut s [])
    (hst : (s.source n).state = .idle ∨ (s.source n).state = .disabled ∨ (s.source n).state = .suspended) :
    OkBut s [n] := h.mono ((h.source n).places.eq_none hst)

/-- A LATCHED source leaves the backlog (R49). -/
theorem dropEntry (h : OkBut s []) (hst : (s.source n).state = .latched) : OkBut (s.dropEntry n) [n] := by
  have hp := (h.source n).places
  refine h.takeOut (h.shared.dropEntry n) (fun m hm => ⟨by simp, rfl, ?_⟩) fun m hm => ?_
  · rw [State.places_dropEntry, if_neg (by simpa using hm)]
  · rw [List.mem_singleton.mp hm, State.places_dropEntry, if_pos rfl]
    rw [hp.eq_of_state, hst]
    rfl

/-- The offers of an OFFERED source are withdrawn (R76). -/
theorem withdraw (h : OkBut s []) (hst : (s.source n).state = .offered) :
    OkBut (s.withdraw (fun _ => true) n) [n] := by
  have hp := (h.source n).places
  refine h.takeOut (h.shared.withdraw _ n) (fun m hm => ⟨by simp, rfl, ?_⟩) fun m hm => ?_
  · rw [State.places_withdraw]
    simp [show m ≠ n by simpa using hm]
  · rw [List.mem_singleton.mp hm, State.places_withdraw]
    rw [hp.eq_of_state, hst]
    simp [Places.none]

/-- The claim of a CLAIMED source ends (R103). -/
theorem removeClaim (h : OkBut s []) {c : Claim} (hc : s.claimOf n = some c) :
    OkBut (s.removeClaim n c.port) [n] := by
  have hp := (h.source n).places
  have hst : (s.source n).state = .claimed := hp.claimed.mp (by simp [State.places, hc])
  refine h.takeOut (h.shared.removeClaim hc) (fun m hm => ⟨by simp, by simp, ?_⟩) fun m hm => ?_
  · rw [State.places_removeClaim, if_neg (Ne.symm (by simpa using hm))]
  · rw [List.mem_singleton.mp hm, State.places_removeClaim, if_pos rfl]
    rw [hp.eq_of_state, hst]
    rfl

/-- An ENGINE_WAIT source leaves the engine queue (R126). -/
theorem unqueue (h : OkBut s []) (hst : (s.source n).state = .engineWait) :
    OkBut { s with engineQueue := s.engineQueue.filter fun m => m != n } [n] := by
  have hp := (h.source n).places
  refine h.takeOut (h.shared.withEngineQueue ((List.length_filter_le _ _).trans h.shared.engineRoom))
    (fun m hm => ⟨by simp, rfl, ?_⟩) fun m hm => ?_
  · have hmn : m ≠ n := by simpa using hm
    unfold State.places
    congr 1
    simp only [List.filter_filter]
    exact List.filter_congr fun k _ => by by_cases hk : k = m <;> simp_all
  · rw [List.mem_singleton.mp hm]
    rw [State.places_withEngineQueue, hp.eq_of_state, hst]
    simp [Places.none, List.filter_filter]

/-- The service in flight is discarded (R142). -/
theorem endService (h : OkBut s []) {v : Service} (hv : s.service = some v) :
    OkBut { s with service := none } [v.src] := by
  have hp := (h.source v.src).places
  have hst : (s.source v.src).state = .engineActive :=
    hp.active.mp (State.service_places_isSome.mpr ⟨v, hv, rfl⟩)
  refine h.takeOut (h.shared.withService (by simp)) (fun m hm => ⟨by simp, rfl, ?_⟩) fun m hm => ?_
  · have hmn : v.src ≠ m := fun hmv => hm (by simp [hmv])
    unfold State.places
    congr 1
    simp [hv, Option.filter, hmn]
  · rw [List.mem_singleton.mp hm]
    rw [State.places_withService, hp.eq_of_state, hst]
    rfl

/-! ### Into a collection -/

/-- A source comes to rest in IDLE, DISABLED or SUSPENDED. -/
theorem rest (h : OkBut s [n]) {e : SourceEntry} (he : EntryOk s n e)
    (hst : e.state = .idle ∨ e.state = .disabled ∨ e.state = .suspended) : OkBut (s.setSource n e) [] := by
  refine h.putIn (h.shared.setSource n e) (fun m hm => ⟨State.source_setSource_ne s n m e hm, rfl⟩) ⟨?_, ?_⟩
  · rw [State.source_setSource_self]
    exact he.congr rfl
  · rw [State.source_setSource_self, State.places_setSource, h.out n (by simp)]
    exact PlacesOk.of_none hst

/-- The UNSERVED check at a LATCHED source sets its mark alone (R63). -/
theorem unservedCheck (h : OkBut s []) (hst : (s.source n).state = .latched) : OkBut (s.unservedCheck n) [] := by
  refine h.edit (n := n) (h.shared.unservedCheck n) (fun m hm => ⟨?_, by simp⟩) ⟨?_, ?_⟩
  · rw [State.source_unservedCheck, if_neg (Ne.symm hm)]
  · rw [State.source_unservedCheck, if_pos rfl]
    have he : EntryOk (s.unservedCheck n) n (s.source n) := (h.source n).entry.congr (by simp)
    exact { he with cleared := by simp [hst] }
  · rw [State.source_unservedCheck, if_pos rfl, State.places_unservedCheck]
    exact { (h.source n).places with }

theorem foldl_unservedCheck (h : OkBut s []) (hst : ∀ n ∈ ns, (s.source n).state = .latched) :
    OkBut (ns.foldl State.unservedCheck s) [] := by
  induction ns generalizing s with
  | nil => exact h
  | cons n ns ih =>
    refine ih (h.unservedCheck (hst n (by simp))) fun m hm => ?_
    rw [State.source_unservedCheck]
    have := hst n (by simp)
    have := hst m (by simp [hm])
    split <;> simp_all

end OkBut

/-- A backlog in which the source with a LATCHED entry stands once gives it its place. -/
theorem State.places_enter {b : List BacklogEntry} {n : SourceId} (h : s.places n = .none)
    (hb : (b.filter fun x => x.src == n) = [⟨n, (s.source n).route.cls⟩]) :
    ({ s with backlog := b } : State).places n = { Places.none with backlog := [⟨n, (s.source n).route.cls⟩] } := by
  rw [← hb, ← h]
  rfl

/-- A backlog edit that leaves the entries of source `m` leaves its places. -/
theorem State.places_withBacklog {b : List BacklogEntry} {m : SourceId}
    (hb : (b.filter fun x => x.src == m) = s.backlog.filter fun x => x.src == m) :
    ({ s with backlog := b } : State).places m = s.places m := by
  unfold State.places
  rw [← hb]
  rfl

/-- A LATCHED source goes to the back of its band (R47). -/
theorem OkBut.enterBack {n : SourceId} (h : OkBut s [n]) (he : EntryOk s n (s.source n))
    (hst : (s.source n).state = .latched) : OkBut (s.enterBack n) [] := by
  refine OkBut.unservedCheck (h.putIn (h.shared.withBacklog (insertBack_ordered _ _ _ h.shared.bands))
    (fun m hm => ⟨rfl, ?_⟩) ⟨he.congr rfl, PlacesOk.of_backlog hst (State.places_enter (h.out n (by simp)) ?_)⟩) hst
  · exact State.places_withBacklog (filter_insertBack_of_neg _ _ _ _ (by simp [State.entryFor, Ne.symm hm]))
  · exact filter_insertBack_of_pos _ _ _ _ (by simp [State.entryFor]) (congrArg Places.backlog (h.out n (by simp)))

theorem State.filter_foldr_insertFront_of_notMem {ns : List SourceId} {m : SourceId} (hm : m ∉ ns)
    (b : List BacklogEntry) :
    ((ns.foldr (fun n b => insertFront BacklogEntry.cls (s.entryFor n) b) b).filter fun x => x.src == m) =
      b.filter fun x => x.src == m := by
  induction ns with
  | nil => rfl
  | cons n ns ih =>
    obtain ⟨hmn, hm⟩ := not_or.mp (mt List.mem_cons.mpr hm)
    rw [List.foldr_cons, filter_insertFront_of_neg _ _ _ _ (by simp [State.entryFor, Ne.symm hmn]), ih hm]

theorem State.filter_foldr_insertFront_of_mem {ns : List SourceId} {m : SourceId} (hns : ns.Nodup) (hm : m ∈ ns)
    {b : List BacklogEntry} (hb : (b.filter fun x => x.src == m) = []) :
    ((ns.foldr (fun n b => insertFront BacklogEntry.cls (s.entryFor n) b) b).filter fun x => x.src == m) =
      [s.entryFor m] := by
  induction ns with
  | nil => simp at hm
  | cons n ns ih =>
    obtain ⟨hn, hns⟩ := List.nodup_cons.mp hns
    rw [List.foldr_cons]
    by_cases hmn : m = n
    · subst hmn
      exact filter_insertFront_of_pos _ _ _ _ (by simp [State.entryFor])
        ((State.filter_foldr_insertFront_of_notMem hn b).trans hb)
    · rw [filter_insertFront_of_neg _ _ _ _ (by simp [State.entryFor, Ne.symm hmn])]
      exact ih hns ((List.mem_cons.mp hm).resolve_left hmn)

theorem State.foldr_insertFront_ordered (ns : List SourceId) {b : List BacklogEntry}
    (hb : b.Pairwise fun a b => b.cls ≤ a.cls) :
    (ns.foldr (fun n b => insertFront BacklogEntry.cls (s.entryFor n) b) b).Pairwise fun a b => b.cls ≤ a.cls := by
  induction ns with
  | nil => exact hb
  | cons n ns ih => exact insertFront_ordered _ _ _ ih

/-- A group of LATCHED sources goes to the front of its bands (R47, R48). -/
theorem OkBut.enterFront {ns : List SourceId} (h : OkBut s ns) (hns : ns.Nodup)
    (he : ∀ n ∈ ns, EntryOk s n (s.source n) ∧ (s.source n).state = .latched) : OkBut (s.enterFront ns) [] := by
  refine OkBut.foldl_unservedCheck ⟨h.shared.withBacklog (State.foldr_insertFront_ordered ns h.shared.bands),
    fun m _ => ?_, by simp⟩ fun n hn => (he n hn).2
  by_cases hm : m ∈ ns
  · refine ⟨(he m hm).1.congr rfl, PlacesOk.of_backlog (he m hm).2 (State.places_enter (h.out m hm) ?_)⟩
    exact State.filter_foldr_insertFront_of_mem hns hm (congrArg Places.backlog (h.out m hm))
  · exact (h.others m hm).congr rfl
      (State.places_withBacklog (State.filter_foldr_insertFront_of_notMem hm s.backlog))

end Sys2Proof.Machine
end

section
namespace Sys2Proof.Machine
variable {s t : State}

/-! ### The entry of a source through its life -/

theorem satAdd_zero : satAdd 0 0 = 0 := rfl

@[simp] theorem SourceEntry.engineBound_withEngine (e : SourceEntry) (st : SourceState) (x : Option Port)
    (f : EngineFlag) :
    ({ e with state := st, exclusion := x, flags := e.flags.withEngine f } : SourceEntry).engineBound = false := by
  cases f <;> simp [SourceEntry.engineBound, HandOnFlags.withEngine]

/-- A line event on an occurrence in hand is counted (R14). -/
theorem SourceEntry.foldEvent_folds {e : SourceEntry}
    (h : (e.state = .latched ∨ e.state = .offered ∨ e.state = .engineWait ∨ e.state = .suspended) ∨
      (e.state = .claimed ∨ e.state = .engineActive) ∧ e.again = true) :
    e.foldEvent = { e with fold := satAdd e.fold 1 } := by
  rcases h with (h | h | h | h) | ⟨h | h, ha⟩ <;> simp [SourceEntry.foldEvent, *]

/-- The first line event in CLAIMED or ENGINE_ACTIVE sets the again flag (R15). -/
theorem SourceEntry.foldEvent_again {e : SourceEntry} (h : e.state = .claimed ∨ e.state = .engineActive)
    (ha : e.again = false) : e.foldEvent = { e with again := true } := by
  rcases h with h | h <;> simp [SourceEntry.foldEvent, *]

/-- What a folding line event can do (Table 2-3). -/
theorem SourceEntry.foldEvent_cases (e : SourceEntry) :
    ((e.state = .idle ∨ e.state = .disabled) ∧ e.foldEvent = e) ∨
    ((e.state ≠ .idle ∧ e.state ≠ .disabled) ∧
      (e.foldEvent = { e with fold := satAdd e.fold 1 } ∨ e.foldEvent = { e with again := true })) := by
  unfold SourceEntry.foldEvent
  cases e.state <;> cases e.again <;> simp

namespace EntryOk

variable {n : SourceId} {e : SourceEntry}

/-- An entry that fits beside a claim fits without it. -/
theorem unclaim (h : EntryOk s n e) (ht : t.claimOf n = none) : EntryOk t n e :=
  { h with payloads := by have := h.payloads; simp [ht]; omega }

theorem enable_of_state (h : EntryOk s n e)
    (hst : e.state ≠ .disabled ∧ e.state ≠ .claimed ∧ e.state ≠ .engineActive) : e.route.enable = true := by
  obtain ⟨h1, h2, h3⟩ := hst
  simpa [h1, h2, h3] using h.enabled

/-- A posted source is not armed (R2). -/
theorem posted_of_armed (h : EntryOk s n e) (ha : e.route.descAddr ≠ none) : isPosted n = false := by
  by_contra hp
  exact ha (h.route.unarmed (by simpa using hp))

/-- A level-detected source is a line source (Table 2-2). -/
theorem line_of_detection (h : EntryOk s n e) {d : Detection} (hd : e.route.detection = some d) :
    isPosted n = false := by
  have := h.route.detection
  rw [hd] at this
  simpa using this.symm

/-- A new occurrence, with the fold count that the again flag keeps (R6, R11, R15). -/
theorem refresh (hr : RouteOk n e.route) (hen : e.route.enable = true) (hhead : isPosted n = true → e.payloads ≠ [])
    (hline : isPosted n = false → e.payloads = [])
    (hroom : e.payloads.length + (if isPosted n ∧ (s.claimOf n).isSome then 1 else 0) ≤ Config.payloadRoom)
    {f : Count8} (hf : isPosted n = true ∨ e.levelDetected = true → f = 0) :
    EntryOk s n { e.fresh with fold := f } :=
  { route := hr
    enabled := by simp [SourceEntry.fresh, hen]
    disabled := by simp [SourceEntry.fresh]
    cleared := by simp [SourceEntry.fresh]
    suspended := by simp [SourceEntry.fresh]
    counted := by simp [SourceEntry.fresh]
    again := by simp [SourceEntry.fresh]
    excluded := by simp [SourceEntry.fresh]
    engine := by simp [SourceEntry.fresh]
    fresh := by simp [SourceEntry.fresh]
    hostPath := by simp [SourceEntry.fresh]
    pending := by simp [SourceEntry.fresh, hen]
    posted := fun hp => ⟨hf (.inl hp), rfl, rfl, rfl, rfl⟩
    level := fun hl => ⟨hf (.inr hl), rfl⟩
    line := hline
    payloads := hroom
    head := fun hp _ => hhead hp }

/-- A new occurrence (R6). -/
theorem latched (h : EntryOk s n e) (hen : e.route.enable = true) (hhead : isPosted n = true → e.payloads ≠ []) :
    EntryOk s n e.fresh := refresh h.route hen hhead h.line h.payloads fun _ => rfl

/-- A new occurrence of a posted source, its payload queue at `ps` (R38, R40). -/
theorem latchedWith (h : EntryOk s n e) (hen : e.route.enable = true) (hp : isPosted n = true) {ps : List Payload}
    (hne : ps ≠ []) (hroom : ps.length + (if isPosted n ∧ (s.claimOf n).isSome then 1 else 0) ≤ Config.payloadRoom) :
    EntryOk s n ({ e with payloads := ps } : SourceEntry).fresh :=
  refresh (e := { e with payloads := ps }) h.route hen (fun _ => hne) (by simp [hp]) hroom fun _ => rfl

/-- IDLE with a route record that the part can hold (R13). -/
theorem toIdle (h : RouteOk n e.route) (hen : e.route.enable = true) (hpay : e.payloads = []) :
    EntryOk s n e.toIdle :=
  { route := h
    enabled := by simp [SourceEntry.toIdle, hen]
    disabled := by simp [SourceEntry.toIdle]
    cleared := by simp [SourceEntry.toIdle, hpay]
    suspended := by simp [SourceEntry.toIdle]
    counted := by simp [SourceEntry.toIdle]
    again := by simp [SourceEntry.toIdle]
    excluded := by simp [SourceEntry.toIdle]
    engine := by simp [SourceEntry.toIdle]
    fresh := by simp [SourceEntry.toIdle]
    hostPath := by simp [SourceEntry.toIdle]
    pending := by simp [SourceEntry.toIdle, hen]
    posted := by simp [SourceEntry.toIdle, HandOnFlags.none]
    level := by simp [SourceEntry.toIdle]
    line := fun _ => hpay
    payloads := by simp [SourceEntry.toIdle, hpay, Config.payloadRoom]; split <;> decide
    head := by simp [SourceEntry.toIdle] }

/-- DISABLED with a route record that the part can hold (R13). -/
theorem toDisabled (h : RouteOk n e.route) (hen : e.route.enable = false) : EntryOk s n e.toDisabled :=
  { route := h
    enabled := .inl rfl
    disabled := fun _ => hen
    cleared := fun _ => ⟨rfl, rfl, rfl, rfl, rfl, rfl⟩
    suspended := by simp [SourceEntry.toDisabled, SourceEntry.toIdle]
    counted := fun _ => rfl
    again := by simp [SourceEntry.toDisabled, SourceEntry.toIdle]
    excluded := by simp [SourceEntry.toDisabled, SourceEntry.toIdle]
    engine := by simp [SourceEntry.toDisabled]
    fresh := by simp [SourceEntry.toDisabled]
    hostPath := by simp [SourceEntry.toDisabled]
    pending := fun _ => ⟨rfl, rfl, rfl⟩
    posted := fun _ => ⟨rfl, rfl, rfl, rfl, rfl⟩
    level := fun _ => ⟨rfl, rfl⟩
    line := fun _ => rfl
    payloads := by simp [SourceEntry.toDisabled, Config.payloadRoom]; split <;> decide
    head := by simp [SourceEntry.toDisabled] }

/-- A host-bound occurrence on its way back to the backlog (R9). -/
theorem reenter (h : EntryOk s n e) (hen : e.route.enable = true) (hbound : e.engineBound = false)
    (hrev : e.revocations ≠ 3) (hpay : isPosted n = true → e.payloads ≠ []) (x : Option Port) :
    EntryOk s n (e.reenter x) :=
  { h with
    enabled := .inr (.inr (.inr hen))
    disabled := by simp [SourceEntry.reenter]
    cleared := by simp [SourceEntry.reenter]
    suspended := by simpa [SourceEntry.reenter] using hrev
    counted := by simp [SourceEntry.reenter]
    again := by simp [SourceEntry.reenter, hen]
    excluded := fun _ => rfl
    engine := by simp [SourceEntry.reenter]
    fresh := fun _ hb => absurd hb (Bool.eq_false_iff.mp hbound)
    hostPath := by simp [SourceEntry.reenter]
    head := fun hp _ => hpay hp }

/-- An OFFERED occurrence on its way back to the backlog (R77). -/
theorem reenter_offered (h : EntryOk s n e) (hst : e.state = .offered) (x : Option Port) : EntryOk s n (e.reenter x) :=
  h.reenter (h.enable_of_state (by simp [hst])) (h.hostPath (.inl hst)) (by simp [h.suspended, hst])
    (fun hp => h.head hp (.inr (.inl hst))) x

/-- The entry of an enabled source with payload and fold count of its ended claim given back (R9, R12, R36). -/
theorem restore (h : EntryOk s n e) (hen : e.route.enable = true) {c : Claim} (hc : s.claimOf n = some c)
    (hst : e.state = .claimed) (hpay : c.payload.isSome = isPosted n)
    (hfold : isPosted n = true ∨ e.levelDetected = true → c.fold = 0) (ht : t.claimOf n = none) :
    EntryOk t n (e.restore c) :=
  { h with
    cleared := by simp [SourceEntry.restore, hst]
    pending := by simp [SourceEntry.restore, hen]
    posted := fun hp => by
      obtain ⟨h0, hrest⟩ := h.posted hp
      exact ⟨by simp [SourceEntry.restore, h0, hfold (.inl hp), satAdd_zero], hrest⟩
    level := fun hl => by
      obtain ⟨h0, hrest⟩ := h.level hl
      exact ⟨by simp [SourceEntry.restore, h0, hfold (.inr hl), satAdd_zero], hrest⟩
    line := fun hp => by
      rw [hp, Option.isSome_eq_false_iff, Option.isNone_iff_eq_none] at hpay
      simp [SourceEntry.restore, hpay, h.line hp]
    payloads := by
      have := h.payloads
      cases hcp : c.payload <;> simp_all [SourceEntry.restore]
    head := by simp [SourceEntry.restore, hst] }

theorem payloads_restore_ne_nil {c : Claim} (hpay : c.payload.isSome = isPosted n) (hp : isPosted n = true) :
    (e.restore c).payloads ≠ [] := by
  rw [hp, Option.isSome_iff_exists] at hpay
  obtain ⟨d, hd⟩ := hpay
  simp [SourceEntry.restore, hd]

/-- RETURN or a reset of its port sends a claimed occurrence back (R101, R110). -/
theorem reenter_claimed (h : EntryOk s n e) (hen : e.route.enable = true) {c : Claim} (hc : s.claimOf n = some c)
    (hst : e.state = .claimed) (hpay : c.payload.isSome = isPosted n)
    (hfold : isPosted n = true ∨ e.levelDetected = true → c.fold = 0) (ht : t.claimOf n = none) (x : Option Port) :
    EntryOk t n ((e.restore c).reenter x) :=
  (h.restore hen hc hst hpay hfold ht).reenter hen (h.hostPath (.inr (.inl hst)))
    (fun hr => by simp [h.suspended.mp hr] at hst) (payloads_restore_ne_nil hpay) x

/-- The expiry of a claim (R117) that does not suspend sends the occurrence back. -/
theorem reenter_expired (h : EntryOk s n e) (hen : e.route.enable = true) {c : Claim} (hc : s.claimOf n = some c)
    (hst : e.state = .claimed) (hpay : c.payload.isSome = isPosted n)
    (hfold : isPosted n = true ∨ e.levelDetected = true → c.fold = 0) (ht : t.claimOf n = none) (x : Option Port)
    (hrev : (e.expired c).revocations ≠ 3) : EntryOk t n ((e.expired c).reenter x) :=
  { h.reenter_claimed hen hc hst hpay hfold ht x with
    suspended := by simpa [SourceEntry.reenter] using hrev
    counted := by simp [SourceEntry.reenter]
    engine := by simp [SourceEntry.reenter]
    fresh := fun _ hb => absurd hb (Bool.eq_false_iff.mp (h.hostPath (.inr (.inl hst)))) }

/-- The third expiry suspends (R118, R119). -/
theorem suspend (h : EntryOk s n e) (hen : e.route.enable = true) {c : Claim} (hc : s.claimOf n = some c)
    (hst : e.state = .claimed) (hpay : c.payload.isSome = isPosted n)
    (hfold : isPosted n = true ∨ e.levelDetected = true → c.fold = 0) (ht : t.claimOf n = none)
    (hrev : (e.expired c).revocations = 3) : EntryOk t n { e.expired c with state := .suspended } :=
  { h.restore hen hc hst hpay hfold ht with
    enabled := .inr (.inr (.inr hen))
    disabled := by simp
    cleared := by simp
    suspended := by simpa using hrev
    counted := by simp
    again := fun _ => ⟨by simp, hen⟩
    excluded := fun hx => absurd (h.excluded hx) (by simp [hst])
    engine := by simp
    fresh := by simp
    hostPath := fun _ => h.hostPath (.inr (.inl hst))
    head := fun hp _ => payloads_restore_ne_nil hpay hp }

/-- RESUME of a SUSPENDED entry (R25). -/
theorem resumed (h : EntryOk s n e) (hst : e.state = .suspended) : EntryOk s n e.resumed :=
  { h with
    enabled := .inr (.inr (.inr (h.enable_of_state (by simp [hst]))))
    disabled := by simp [SourceEntry.resumed, SourceEntry.reenter]
    cleared := by simp [SourceEntry.resumed, SourceEntry.reenter]
    suspended := by simp [SourceEntry.resumed, SourceEntry.reenter]
    counted := fun _ => rfl
    again := fun ha => ⟨by simp [SourceEntry.resumed, SourceEntry.reenter], (h.again ha).2⟩
    excluded := fun _ => rfl
    engine := by simp [SourceEntry.resumed, SourceEntry.reenter]
    fresh := fun _ hb => absurd hb (Bool.eq_false_iff.mp (h.hostPath (.inr (.inr hst))))
    hostPath := by simp [SourceEntry.resumed, SourceEntry.reenter]
    head := fun hp _ => h.head hp (.inr (.inr hst)) }

/-- Placement into the engine queue (R54). -/
theorem toEngineWait (h : EntryOk s n e) (hst : e.state = .latched) (hb : e.engineBound = true) :
    EntryOk s n { e with state := .engineWait, exclusion := none } :=
  { h with
    enabled := .inr (.inr (.inr (h.enable_of_state (by simp [hst]))))
    disabled := by simp
    cleared := by simp
    suspended := by simp [h.suspended, hst]
    counted := by simp
    again := fun ha => ⟨by simp, (h.again ha).2⟩
    excluded := by simp
    engine := fun _ => h.fresh hst hb
    fresh := by simp
    hostPath := by simp
    head := by simp }

/-- The start of a service (R128). -/
theorem toEngineActive (h : EntryOk s n e) (hst : e.state = .engineWait) :
    EntryOk s n { e with state := .engineActive } :=
  { h with
    enabled := .inr (.inr (.inl rfl))
    disabled := by simp
    cleared := by simp
    suspended := by simp [h.suspended, hst]
    counted := by simp
    again := fun ha => ⟨by simp, (h.again ha).2⟩
    excluded := fun hx => absurd (h.excluded hx) (by simp [hst])
    engine := fun _ => h.engine (.inl hst)
    fresh := by simp
    hostPath := by simp
    head := by simp }

/-- Placement to hosts (R61). -/
theorem offeredAt (h : EntryOk s n e) (hst : e.state = .latched) (hb : e.engineBound = false) (ports : List Port) :
    EntryOk s n (e.offeredAt ports) :=
  { h with
    enabled := .inr (.inr (.inr (h.enable_of_state (by simp [hst]))))
    disabled := by simp [SourceEntry.offeredAt]
    cleared := by simp [SourceEntry.offeredAt]
    suspended := by simp [SourceEntry.offeredAt, h.suspended, hst]
    counted := by simp [SourceEntry.offeredAt]
    again := fun ha => ⟨by simp [SourceEntry.offeredAt], (h.again ha).2⟩
    excluded := by simp [SourceEntry.offeredAt]
    engine := by simp [SourceEntry.offeredAt]
    fresh := by simp [SourceEntry.offeredAt]
    hostPath := fun _ => hb
    head := fun hp _ => h.head hp (.inl hst) }

/-- A claim of an OFFERED source (R8): the payload moved into the claim keeps its room (R36). -/
theorem claimedNow (h : EntryOk s n e) (hst : e.state = .offered) : EntryOk t n (e.claimedNow n) :=
  { h with
    enabled := .inr (.inl rfl)
    disabled := by simp [SourceEntry.claimedNow]
    cleared := by simp [SourceEntry.claimedNow]
    suspended := by simp [SourceEntry.claimedNow, h.suspended, hst]
    counted := by simp [SourceEntry.claimedNow]
    again := fun ha => ⟨by simp [SourceEntry.claimedNow], (h.again ha).2⟩
    excluded := fun hx => absurd (h.excluded hx) (by simp [hst])
    engine := by simp [SourceEntry.claimedNow]
    fresh := by simp [SourceEntry.claimedNow]
    hostPath := fun _ => h.hostPath (.inl hst)
    pending := fun hen => by
      obtain ⟨hpay, -, ha⟩ := h.pending hen
      exact ⟨by simp [SourceEntry.claimedNow, hpay], rfl, ha⟩
    posted := fun hp => ⟨rfl, (h.posted hp).2⟩
    level := fun hl => ⟨rfl, (h.level hl).2⟩
    line := fun hp => by simp [SourceEntry.claimedNow, hp, h.line hp]
    payloads := by
      have hlen := h.payloads
      by_cases hp : isPosted n = true
      · have := List.length_pos_of_ne_nil (h.head hp (.inr (.inl hst)))
        have : e.payloads.length ≤ Config.payloadRoom := by omega
        simp [SourceEntry.claimedNow, hp]
        split <;> omega
      · simp [SourceEntry.claimedNow, hp]
        omega
    head := by simp [SourceEntry.claimedNow] }

/-- The end of a service hands the occurrence on with an engine flag (R10). -/
theorem handedOn (h : EntryOk s n e) (hst : e.state = .engineActive) (hen : e.route.enable = true)
    (hline : isPosted n = false) (f : EngineFlag) :
    EntryOk s n { e with state := .latched, exclusion := none, flags := e.flags.withEngine f } :=
  { h with
    enabled := .inr (.inr (.inr hen))
    disabled := by simp
    cleared := by simp
    suspended := by simp [h.suspended, hst]
    counted := by simp
    again := fun ha => ⟨by simp, (h.again ha).2⟩
    excluded := by simp
    engine := by simp
    fresh := fun _ hb => by rw [SourceEntry.engineBound_withEngine] at hb; cases hb
    hostPath := by simp
    posted := by simp [hline]
    head := by simp [hline] }

/-- A new descriptor address after a service (R140). -/
theorem withDescAddr (h : EntryOk s n e) (hst : e.state = .engineActive) {a : Option Word}
    (hpost : isPosted n = false) (ha : ∀ w, a = some w → w.toNat % 16 = 0) :
    EntryOk s n { e with route := { e.route with descAddr := a } } :=
  { h with
    route := { h.route with unarmed := by simp [hpost], aligned := ha }
    fresh := by simp [hst]
    hostPath := by simp [hst] }

/-- DISABLE of a CLAIMED or ENGINE_ACTIVE source (Table 1-7). -/
theorem toDisablePending (h : EntryOk s n e) (hst : e.state = .claimed ∨ e.state = .engineActive) :
    EntryOk s n (SourceEntry.toDisablePending { e with route := { e.route with enable := false } }) :=
  { h with
    route := { h.route with }
    enabled := by rcases hst with hst | hst <;> simp [SourceEntry.toDisablePending, hst]
    disabled := fun _ => rfl
    cleared := by rcases hst with hst | hst <;> simp [SourceEntry.toDisablePending, hst]
    again := by simp [SourceEntry.toDisablePending]
    pending := fun _ => ⟨rfl, rfl, rfl⟩
    posted := fun hp => by
      obtain ⟨-, -, hfl⟩ := h.posted hp
      exact ⟨rfl, rfl, hfl⟩
    level := fun _ => ⟨rfl, rfl⟩
    line := fun _ => rfl
    payloads := by simp [SourceEntry.toDisablePending, Config.payloadRoom]; split <;> decide
    head := by rcases hst with hst | hst <;> simp [SourceEntry.toDisablePending, hst] }

/-- Payloads added to or taken from the queue of an enabled posted source in hand (R38, R41). -/
theorem withPayloads (h : EntryOk s n e) (hen : e.route.enable = true) (hp : isPosted n = true)
    (hst : e.state ≠ .idle) {ps : List Payload}
    (hroom : ps.length + (if isPosted n ∧ (s.claimOf n).isSome then 1 else 0) ≤ Config.payloadRoom)
    (hhead : e.state ≠ .claimed → ps ≠ []) : EntryOk s n { e with payloads := ps } :=
  { h with
    cleared := fun hs => by
      rcases hs with hs | hs
      · exact absurd hs hst
      · exact absurd (h.disabled hs) (by simp [hen])
    pending := by simp [hen]
    line := by simp [hp]
    payloads := hroom
    head := fun _ hs => hhead (by rcases hs with hs | hs | hs <;> simp_all) }

/-- A line event folded into the occurrence in hand (R14, R15). -/
theorem foldEvent (h : EntryOk s n e) (hen : e.route.enable = true) (hline : isPosted n = false)
    (hedge : e.levelDetected = false) : EntryOk s n e.foldEvent := by
  have hfold : ∀ f : Count8, e.state ≠ .idle → e.state ≠ .disabled → EntryOk s n { e with fold := f } := fun f h1 h2 =>
    { h with
      cleared := by simp [h1, h2]
      pending := by simp [hen]
      posted := by simp [hline]
      level := fun hl => by simp [SourceEntry.levelDetected] at hl hedge; simp_all }
  have hagain : e.state ≠ .idle → e.state ≠ .disabled → EntryOk s n { e with again := true } := fun h1 h2 =>
    { h with
      cleared := by simp [h1, h2]
      again := fun _ => ⟨⟨h1, h2⟩, hen⟩
      pending := by simp [hen]
      posted := by simp [hline]
      level := fun hl => by simp [SourceEntry.levelDetected] at hl hedge; simp_all }
  rcases e.foldEvent_cases with ⟨-, he⟩ | ⟨⟨h1, h2⟩, he | he⟩ <;> rw [he]
  · exact h
  · exact hfold _ h1 h2
  · exact hagain h1 h2

end EntryOk

end Sys2Proof.Machine
end

section
namespace Sys2Proof.Machine
variable {s t : State}

/-! ### Shared operations and the invariant -/

namespace OkBut

variable {n : SourceId}

/-- A new occurrence of a source that stands in no collection (R6). -/
theorem latch (h : OkBut s [n]) (he : EntryOk s n (s.source n).fresh) : OkBut (s.latch n) [] := by
  refine (h.setSource _).enterBack ?_ ?_
  · rw [State.source_setSource_self]
    exact he.congr rfl
  · rw [State.source_setSource_self]
    rfl

/-- The end of an occurrence, its claim or service gone (R11). -/
theorem endOccurrence (h : OkBut s [n]) (he : EntryOk s n (s.source n)) : OkBut (s.endOccurrence n) [] := by
  have hagain : (s.source n).again = true → isPosted n = false := fun ha => by
    by_contra hp
    simp [(he.posted (by simpa using hp)).2.1] at ha
  rcases s.endOccurrence_cases n with ⟨hen, heq⟩ | ⟨hen, ha, heq⟩ | ⟨hen, -, hwhy, heq⟩ | ⟨hen, -, hpay, -, heq⟩ <;> rw [heq]
  · exact h.rest (EntryOk.toDisabled he.route hen) (.inr (.inl rfl))
  · refine (h.setSource _).enterBack ?_ ?_ <;> rw [State.source_setSource_self]
    · refine (EntryOk.refresh he.route hen (by simp [hagain ha]) he.line he.payloads fun hz => ?_).congr rfl
      rcases hz with hz | hz
      · exact (he.posted hz).1
      · exact (he.level hz).1
    · rfl
  · refine h.latch (he.latched hen fun hp => ?_)
    rcases hwhy with ⟨-, hq⟩ | hl
    · exact hq
    · simp [State.levelActive, hp] at hl
  · refine h.rest (EntryOk.toIdle he.route hen ?_) (.inl rfl)
    exact hpay.elim he.line id

end OkBut

/-! ### The invariant under updates that no source takes part in -/

/-- Samples, prescale count, reset inputs and queued accesses are seen by no other part of the invariant. -/
theorem Inv.withInputs (h : Inv s) {cur prev : Levels} {k : Nat} {note : Option ResetNote} {pr : Vector Bool 4}
    {held pending : List Instr} (hk : k < s.interval)
    (hr : ResetOk { s with currentSample := cur, previousSample := prev, prescale := k, resetNote := note,
                           portResets := pr, held := held, pending := pending }) :
    Inv { s with currentSample := cur, previousSample := prev, prescale := k, resetNote := note,
                 portResets := pr, held := held, pending := pending } where
  backlog := { h.backlog with }
  offers := { h.offers with }
  claims := { h.claims with }
  engine := { h.engine with }
  ports := { h.ports with }
  entries n := (h.entries n).congr rfl
  time := { h.time with prescale := hk }
  attn := h.attn
  faults := h.faults
  reset := hr

theorem Inv.withPending (h : Inv s) (pending : List Instr) : Inv { s with pending := pending } :=
  h.withInputs h.time.prescale { h.reset with }

/-- An access is held while its port takes none (R161, R162). -/
theorem Inv.hold (h : Inv s) {c : Instr} {p : Port} (hc : accessPort c = some p) (hp : s.holding p = true) :
    Inv { s with held := s.held ++ [c] } :=
  h.withInputs h.time.prescale
    { h.reset with
      held := fun d hd => by
        rcases List.mem_append.mp hd with hd | hd
        · exact h.reset.held d hd
        · refine ⟨p, by rwa [List.mem_singleton.mp hd], fun ht => ?_⟩
          rw [(State.holding_eq_false s p).mpr ht] at hp
          cases hp }

/-- The accesses of ports that take accesses again are let through (R161, R162). -/
theorem ResetOk.held_letThrough {c : Instr} (hp : ∀ c ∈ s.held, (accessPort c).isSome = true)
    (hc : c ∈ s.letThrough.held) : ∃ p, accessPort c = some p ∧ ¬takesAccesses s p := by
  obtain ⟨hc, hst⟩ := (State.mem_held_letThrough s c).mp hc
  obtain ⟨p, hcp⟩ := Option.isSome_iff_exists.mp (hp c hc)
  refine ⟨p, hcp, fun ht => ?_⟩
  rw [State.stillHeld, hcp, Option.any_some, (State.holding_eq_false s p).mpr ht] at hst
  cases hst

theorem Inv.accessPort_held (h : Inv s) : ∀ c ∈ s.held, (accessPort c).isSome = true := fun c hc => by
  obtain ⟨p, hp, -⟩ := h.reset.held c hc
  simp [hp]

/-! #### When RESET is not asserted -/

theorem Inv.awake_of_backlog (h : Inv s) {b : BacklogEntry} (hb : b ∈ s.backlog) : s.resetNote = none := by
  by_contra hn
  have := (h.reset.empty (Option.isSome_iff_ne_none.mpr hn)).1
  simp [this] at hb

theorem Inv.awake_of_claim (h : Inv s) {n : SourceId} {c : Claim} (hc : s.claimOf n = some c) : s.resetNote = none := by
  by_contra hn
  obtain ⟨-, -, hcl, -⟩ := h.reset.empty (Option.isSome_iff_ne_none.mpr hn)
  simp [hcl] at hc

theorem Inv.awake_of_queued (h : Inv s) {n : SourceId} (hq : n ∈ s.engineQueue) : s.resetNote = none := by
  by_contra hn
  obtain ⟨-, -, -, hen, -⟩ := h.reset.empty (Option.isSome_iff_ne_none.mpr hn)
  simp [hen] at hq

theorem Inv.awake_of_service (h : Inv s) {v : Service} (hv : s.service = some v) : s.resetNote = none := by
  by_contra hn
  obtain ⟨-, -, -, -, hsv, -⟩ := h.reset.empty (Option.isSome_iff_ne_none.mpr hn)
  simp [hsv] at hv

/-! ### Admission and the invariant -/

/-- The end of every happening that changes what the attention outputs follow. -/
theorem OkBut.inv_updateAttention (h : OkBut s []) : Inv s.updateAttention := h.updateAttention.inv attnOk_updateAttention

theorem Inv.setResult (h : Inv s) {p : Port} (hp : takesAccesses s p) (c : Result) : Inv (s.setResult p c) :=
  ((h.okBut hp.1).modPort p _ hp.2 rfl).inv (h.attn.setResult p c)

theorem Inv.returnWord (h : Inv s) (p : Port) (w : Word) : Inv (s.returnWord p w) where
  backlog := { h.backlog with }
  offers := { h.offers with }
  claims := { h.claims with }
  engine := { h.engine with }
  ports := { h.ports with }
  entries n := (h.entries n).congr rfl
  time := { h.time with }
  attn := h.attn
  faults := h.faults
  reset := { h.reset with }

/-- An access keeps the invariant when what it does at a port that takes accesses keeps it. -/
theorem Inv.orHold (h : Inv s) {c : Instr} {p : Port} {take : State → State} (hc : accessPort c = some p)
    (ht : takesAccesses s p → Inv (take s)) (hx : s.orHold c p take = .next t) : Inv t := by
  cases hp : s.holding p with
  | true => rw [State.orHold_held s c p take hp] at hx; cases hx; exact h.hold hc hp
  | false =>
    rw [State.orHold_taken s c p take hp] at hx; cases hx
    exact ht ((State.holding_eq_false s p).mp hp)

/-- A command write keeps the invariant when its rule does at the ports that Table 8-3 admits. -/
theorem Inv.command (h : Inv s) {c : Instr} {p : Port} {a : Admission} {rule : State → State × Result}
    (hc : accessPort c = some p)
    (hr : takesAccesses s p → s.refusal a p = none → Inv (rule s).1 ∧ takesAccesses (rule s).1 p)
    (hx : s.command c p a rule = .next t) : Inv t := by
  rcases State.command_cases s c p a rule with ⟨hp, heq⟩ | ⟨hp, code, -, heq⟩ | ⟨hp, ha, heq⟩ <;>
    rw [heq] at hx <;> cases hx
  · exact h.hold hc hp
  · exact h.setResult ((State.holding_eq_false s p).mp hp) code
  · obtain ⟨hi, ht⟩ := hr ((State.holding_eq_false s p).mp hp) ha
    exact hi.setResult ht _

end Sys2Proof.Machine
end

section
namespace Sys2Proof.Machine
variable {s t : State}

/-! ### Power-on, resets and lines -/

@[simp] theorem State.source_powerOn (levels : Levels) (n : SourceId) :
    (State.powerOn levels).source n = SourceEntry.powerOn n := by
  simp [State.source, State.powerOn, powerOnSources]

@[simp] theorem State.queue_powerOn (levels : Levels) (p : Port) : (State.powerOn levels).queue p = [] := by
  simp [State.queue, State.powerOn]

@[simp] theorem State.claimOf_powerOn (levels : Levels) (n : SourceId) : (State.powerOn levels).claimOf n = none := by
  simp [State.claimOf, State.powerOn]

@[simp] theorem State.port_powerOn (levels : Levels) (p : Port) : (State.powerOn levels).port p = .default := by
  simp [State.port, State.powerOn]

@[simp] theorem State.source_assertReset (n : SourceId) : s.assertReset.source n = (s.source n).partReset := by
  simp [State.source, State.assertReset]

@[simp] theorem State.queue_assertReset (p : Port) : s.assertReset.queue p = [] := by
  simp [State.queue, State.assertReset]

@[simp] theorem State.claimOf_assertReset (n : SourceId) : s.assertReset.claimOf n = none := by
  simp [State.claimOf, State.assertReset]

@[simp] theorem State.port_assertReset (p : Port) : s.assertReset.port p = .default := by
  simp [State.port, State.assertReset]

theorem State.attn_assertReset (p : Port) : s.assertReset.attn[p] = false := by
  simp [State.assertReset]

/-- The part with every collection empty and every port at its default settings. -/
theorem inv_of_empty (hb : s.backlog = []) (hq : ∀ p, s.queue p = []) (hc : ∀ n, s.claimOf n = none)
    (he : s.engineQueue = []) (hv : s.service = none) (hp : ∀ p, s.port p = .default) (hl : s.lease = none)
    (hsrc : ∀ n, EntryOk s n (s.source n) ∧ ((s.source n).state = .idle ∨ (s.source n).state = .disabled))
    (ht : TimeOk s) (hattn : ∀ p : Port, s.attn[p] = false) (hf : FaultsOk s)
    (hheld : ∀ c ∈ s.held, ∃ p, accessPort c = some p ∧ ¬takesAccesses s p) : Inv s where
  backlog :=
    { nodup := by simp [hb]
      ordered := by simp [hb]
      classes := by simp [hb]
      latched := fun n => by rcases (hsrc n).2 with h | h <;> simp [hb, h] }
  offers :=
    { room := by simp [hq]
      nodup := by simp [hq]
      ordered := by simp [hq]
      online := by simp [hq]
      agree := by simp [hq]
      offered := fun n => by rcases (hsrc n).2 with h | h <;> simp [h]
      contest := by simp [State.hasOffer, hq] }
  claims :=
    { claimed := fun n => by rcases (hsrc n).2 with h | h <;> simp [hc, h]
      room := fun p => by rw [State.claimCount_eq_zero.mpr (by simp [State.holds, hc])]; exact Nat.zero_le _
      agree := by simp [hc]
      unfolded := by simp [hc] }
  engine :=
    { room := by simp [he]
      nodup := by simp [he]
      waiting := fun n => by rcases (hsrc n).2 with h | h <;> simp [he, h]
      active := fun n => by rcases (hsrc n).2 with h | h <;> simp [hv, h]
      armed := fun n => by rcases (hsrc n).2 with h | h <;> simp [h]
      address := by simp [hv]
      moving := by simp [hv]
      link := by simp [hv]
      fault := by simp [hv] }
  ports :=
    { offline := fun p _ => State.claimCount_eq_zero.mpr (by simp [State.holds, hc])
      draining := by simp [hp, PortRegs.default]
      lease := by simp [hl] }
  entries n := (hsrc n).1
  time := ht
  attn p := by simp [hattn, hp, hq, PortRegs.default]
  faults := hf
  reset :=
    { empty := fun _ => ⟨hb, hq, hc, he, hv, hp, hl⟩
      port := fun p _ => hp p
      held := hheld }

theorem routeOk_powerOn (n : SourceId) : RouteOk n (Route.powerOn n) where
  detection := by simp only [Route.powerOn, isPosted]; split <;> simp <;> omega
  unarmed _ := rfl
  eligible := by simp [Route.powerOn]
  fixed _ := by
    change allPorts.countP (fun p => (0b0001#4).getLsbD p.val) = 1
    decide
  aligned := by simp [Route.powerOn]

theorem entryOk_powerOn (n : SourceId) : EntryOk s n (SourceEntry.powerOn n) :=
  { EntryOk.toDisabled (s := s) (e := SourceEntry.powerOn n) (routeOk_powerOn n) rfl with }

/-- Power-on and part reset leave the time base at its default settings (R124). -/
theorem timeOk_of_default (hd : s.divider = 100) (hi : s.interval = 100) (hp : s.prescale = 0) : TimeOk s where
  divider := by rw [hd]; decide
  interval := by rw [hi]; decide
  prescale := by rw [hi, hp]; decide

/-- The part at power-on meets the invariant (R26). -/
theorem inv_powerOn (levels : Levels) : Inv (State.powerOn levels) := by
  refine inv_of_empty rfl (by simp) (by simp) rfl rfl (by simp) rfl (fun n => ?_) (timeOk_of_default rfl rfl rfl)
    (fun p => ?_) (Nat.zero_le _) (by simp [State.powerOn])
  · rw [State.source_powerOn]
    exact ⟨entryOk_powerOn n, .inr rfl⟩
  · simp [State.powerOn]

theorem entryOk_partReset {n : SourceId} {e : SourceEntry} (h : EntryOk s n e) : EntryOk t n e.partReset := by
  cases hen : e.route.enable with
  | true =>
    have hi : EntryOk t n (SourceEntry.toIdle { e with payloads := [] }) := EntryOk.toIdle h.route hen rfl
    simp only [SourceEntry.partReset, hen, if_true]
    exact { hi with }
  | false =>
    have hd : EntryOk t n e.toDisabled := EntryOk.toDisabled h.route hen
    simp only [SourceEntry.partReset, hen]
    exact { hd with }

/-- The part while RESET is asserted (R27). -/
theorem Inv.assertReset (h : Inv s) : Inv s.assertReset := by
  refine inv_of_empty rfl (by simp) (by simp) rfl rfl (by simp) rfl (fun n => ?_) (timeOk_of_default rfl rfl rfl)
    State.attn_assertReset h.faults fun c hc => ?_
  · rw [State.source_assertReset]
    refine ⟨entryOk_partReset (h.entries n), ?_⟩
    cases hen : (s.source n).route.enable <;>
      simp [SourceEntry.partReset, hen, SourceEntry.toIdle, SourceEntry.toDisabled]
  · obtain ⟨p, hp, -⟩ := h.reset.held c hc
    exact ⟨p, hp, by simp [takesAccesses, State.assertReset]⟩

/-! #### The release of RESET -/

theorem OkBut.latchAtRelease (h : OkBut s []) (n : SourceId) : OkBut (s.latchAtRelease n) [] := by
  unfold State.latchAtRelease
  split
  · rename_i hl
    obtain ⟨⟨hen, hst⟩, hact⟩ : ((s.source n).route.enable = true ∧ (s.source n).state = .idle) ∧
      s.levelActive n = true := by simpa using hl
    refine (h.outside (.inl hst)).latch ((h.source n).entry.latched hen fun hp => ?_)
    simp [State.levelActive, hp] at hact
  · exact h

theorem OkBut.foldl_latchAtRelease (h : OkBut s []) (ns : List SourceId) :
    OkBut (ns.foldl State.latchAtRelease s) [] := by
  induction ns generalizing s with
  | nil => exact h
  | cons n ns ih => exact ih (h.latchAtRelease n)

/-- RESET is released (R180). -/
theorem Inv.releaseReset (h : Inv s) (note : ResetNote) (levels : Levels) : Inv (s.releaseReset note levels) := by
  have hi : Inv (State.letThrough
      { s with currentSample := levels, previousSample := levels, prescale := 0, resetNote := none }) :=
    h.withInputs (Nat.zero_lt_of_lt h.time.prescale)
      { empty := by simp
        port := h.reset.port
        held := fun c hc => ResetOk.held_letThrough
          (s := { s with currentSample := levels, previousSample := levels, prescale := 0, resetNote := none })
          h.accessPort_held hc }
  exact (((hi.okBut rfl).handRecord _).foldl_latchAtRelease _).inv_updateAttention

/-! #### A new sample of a line -/

/-- An entry edited in place, its source's places left. -/
theorem OkBut.editEntry {n : SourceId} (h : OkBut s []) {e : SourceEntry} (he : EntryOk s n e)
    (hp : PlacesOk n e (s.places n)) : OkBut (s.setSource n e) [] := by
  refine h.edit (n := n) (h.shared.setSource n e) (fun m hm => ⟨State.source_setSource_ne s n m e hm, rfl⟩) ⟨?_, ?_⟩ <;>
    rw [State.source_setSource_self]
  · exact he.congr rfl
  · exact hp

theorem OkBut.foldEvent {n : SourceId} (h : OkBut s []) (hen : (s.source n).route.enable = true)
    (hline : isPosted n = false) (hedge : (s.source n).levelDetected = false) :
    OkBut (s.modSource n SourceEntry.foldEvent) [] := by
  have hp := (h.source n).places
  refine h.editEntry ((h.source n).entry.foldEvent hen hline hedge) ?_
  rcases (s.source n).foldEvent_cases with ⟨-, he⟩ | ⟨-, he | he⟩ <;> rw [he] <;> exact { hp with }

theorem OkBut.judgeChange (h : OkBut s []) (n : SourceId) (level : Bool) : OkBut (s.judgeChange n level) [] := by
  unfold State.judgeChange
  split
  case isFalse => exact h
  rename_i hen
  have he := (h.source n).entry
  split
  case h_2 => exact h
  rename_i d hd
  have hline := he.line_of_detection hd
  have hlatch : (s.source n).state = .idle → OkBut (s.latch n) [] := fun hst =>
    (h.outside (.inl hst)).latch (he.latched hen (by simp [hline]))
  split
  · rename_i hq
    unfold State.qualifyingEdge
    split
    · exact hlatch ‹_›
    · refine h.foldEvent hen hline ?_
      cases d <;> simp_all [SourceEntry.levelDetected, Detection.qualifies]
  · split
    · unfold State.activation
      split
      · exact hlatch ‹_›
      · exact h
    · exact h

theorem Inv.lineChange (h : Inv s) {l : LineId} {level : Bool} (hx : execLineChange l level s = .next t) : Inv t := by
  unfold execLineChange at hx
  cases hx
  have hi : Inv (s.sampleLine l level) := h.withInputs h.time.prescale { h.reset with }
  split
  · exact h
  · rename_i hn
    split
    · exact hi
    · exact ((hi.okBut (by simpa [State.sampleLine] using hn)).judgeChange _ _).inv_updateAttention

/-! #### Time -/

theorem Inv.takeTick (h : Inv s) : Inv s.takeTick := by
  have hcl : ∀ n, s.takeTick.claimOf n = (s.claimOf n).map Claim.ticked := fun n => by
    simp [State.claimOf, State.takeTick]
  have hcount : ∀ p, s.takeTick.claimCount p = s.claimCount p := fun p => by
    unfold State.claimCount
    refine List.countP_congr fun n _ => ?_
    rw [State.holds_iff, State.holds_iff, hcl]
    cases s.claimOf n <;> simp [Claim.ticked]
  have hsome : ∀ n, (s.takeTick.claimOf n).isSome = (s.claimOf n).isSome := fun n => by simp [hcl]
  refine
    { backlog := { h.backlog with }
      offers := { h.offers with }
      claims := ⟨fun n => ?_, fun p => ?_, fun n c hc => ?_, fun n c hc => ?_⟩
      engine := { h.engine with }
      ports := ⟨fun p hp => ?_, fun p hp => ?_, h.ports.lease⟩
      entries := fun n => (h.entries n).congr (hsome n)
      time := ⟨h.time.divider, h.time.divider, h.time.divider.1⟩
      attn := h.attn
      faults := h.faults
      reset := { h.reset with empty := fun hn => ?_ } }
  · rw [hsome]; exact h.claims.claimed n
  · rw [hcount]; exact h.claims.room p
  · rw [hcl] at hc
    obtain ⟨c', hc', rfl⟩ := Option.map_eq_some_iff.mp hc
    exact h.claims.agree n c' hc'
  · rw [hcl] at hc
    obtain ⟨c', hc', rfl⟩ := Option.map_eq_some_iff.mp hc
    exact h.claims.unfolded n c' hc'
  · rw [hcount]; exact h.ports.offline p hp
  · rw [hcount]; exact h.ports.draining p hp
  · obtain ⟨hb, hq, hc, hrest⟩ := h.reset.empty hn
    exact ⟨hb, hq, fun n => by rw [hcl, hc]; rfl, hrest⟩

theorem Inv.clockCycle (h : Inv s) : Inv s.clockCycle := by
  unfold State.clockCycle
  split
  · exact h
  split
  · exact h.withInputs (by assumption) { h.reset with }
  split
  · exact h
  · exact h.takeTick

end Sys2Proof.Machine
end

section
namespace Sys2Proof.Machine
variable {s t : State}

/-! ### The transfer engine -/

/-- In service and in no collection, a source agrees with an ENGINE_ACTIVE entry. -/
theorem PlacesOk.of_service {n : SourceId} {e : SourceEntry} {v : Service} (hst : e.state = .engineActive)
    (ha : e.route.descAddr = some v.descAddr) : PlacesOk n e { Places.none with service := some v } := by
  constructor <;> simp [Places.none, hst, ha]

/-- In the engine queue and no other collection, a source agrees with an engine-bound ENGINE_WAIT entry. -/
theorem PlacesOk.of_queued {n : SourceId} {e : SourceEntry} (hst : e.state = .engineWait)
    (hb : e.engineBound = true) : PlacesOk n e { Places.none with queued := [n] } := by
  constructor <;> simp [Places.none, hst, hb]

namespace OkBut

/-- A source goes into service (R128). -/
theorem serve {n : SourceId} (h : OkBut s [n]) (hidle : s.service = none) {v : Service} (hsrc : v.src = n)
    (he : EntryOk s n (s.source n)) (hst : (s.source n).state = .engineActive)
    (hd : (s.source n).route.descAddr = some v.descAddr) (hv : ServiceOk v) :
    OkBut { s with service := some v } [] := by
  refine h.putIn (h.shared.withService fun w hw => Option.some.inj hw ▸ hv) (fun m hm => ⟨rfl, ?_⟩) ⟨he.congr rfl, ?_⟩
  · rw [State.places_withService]
    simp [State.places, hidle, Option.filter, hsrc, Ne.symm hm]
  · change PlacesOk n (s.source n) _
    rw [State.places_withService, h.out n (by simp)]
    simpa [Option.filter, hsrc] using PlacesOk.of_service hst hd

/-- A source goes to the back of the engine queue (R54). -/
theorem enqueue {n : SourceId} (h : OkBut s [n]) (hroom : s.engineQueue.length < Config.engineRoom)
    (he : EntryOk s n (s.source n)) (hst : (s.source n).state = .engineWait)
    (hb : (s.source n).engineBound = true) : OkBut { s with engineQueue := s.engineQueue ++ [n] } [] := by
  have hout : s.engineQueue.filter (fun k => k == n) = [] := congrArg Places.queued (h.out n (by simp))
  refine h.putIn (h.shared.withEngineQueue (by simpa using hroom)) (fun m hm => ⟨rfl, ?_⟩) ⟨he.congr rfl, ?_⟩
  · rw [State.places_withEngineQueue]
    simp [State.places, List.filter_append, Ne.symm hm]
  · change PlacesOk n (s.source n) _
    rw [State.places_withEngineQueue, h.out n (by simp), List.filter_append, hout]
    simpa using PlacesOk.of_queued hst hb

theorem active_of_service (h : OkBut s []) {v : Service} (hv : s.service = some v) :
    (s.source v.src).state = .engineActive :=
  (h.source v.src).places.active.mp (State.service_places_isSome.mpr ⟨v, hv, rfl⟩)

theorem address_of_service (h : OkBut s []) {v : Service} (hv : s.service = some v) :
    (s.source v.src).route.descAddr = some v.descAddr :=
  (h.source v.src).places.address v (State.service_places_eq.mpr ⟨hv, rfl⟩)

/-- The source in service is a line source (R2). -/
theorem line_of_service (h : OkBut s []) {v : Service} (hv : s.service = some v) : isPosted v.src = false :=
  (h.source v.src).entry.posted_of_armed (by simp [h.address_of_service hv])

/-- The service in flight goes on, for the same source and descriptor. -/
theorem withService (h : OkBut s []) {v w : Service} (hv : s.service = some v) (hsrc : w.src = v.src)
    (hd : w.descAddr = v.descAddr) (hw : ServiceOk w) : OkBut { s with service := some w } [] := by
  have hp := (h.source v.src).places
  refine h.edit (n := v.src) (h.shared.withService fun u hu => Option.some.inj hu ▸ hw)
    (fun m hm => ⟨rfl, ?_⟩) ⟨(h.source v.src).entry.congr rfl, ?_⟩
  · unfold State.places
    congr 1
    simp [hv, Option.filter, hsrc, Ne.symm hm]
  · refine { hp with active := ?_, address := fun u hu => ?_ }
    · exact iff_of_true (by simp [State.places, Option.filter, hsrc]) (h.active_of_service hv)
    · obtain ⟨hu, -⟩ := State.service_places_eq.mp hu
      cases hu
      rw [hd]
      exact h.address_of_service hv

theorem setPhase (h : OkBut s []) {v : Service} (hv : s.service = some v) {ph : Phase}
    (hw : ServiceOk { v with phase := ph }) : OkBut (s.setPhase v ph) [] := h.withService hv rfl rfl hw

theorem foldl_handRecord {ns : List SourceId} (h : OkBut s ns) (rs : List FaultRecord) :
    OkBut (rs.foldl State.handRecord s) ns := by
  induction rs generalizing s with
  | nil => exact h
  | cons r rs ih => exact ih (h.handRecord r)

end OkBut

@[simp] theorem State.foldl_handRecord_source (rs : List FaultRecord) (m : SourceId) :
    (rs.foldl State.handRecord s).source m = s.source m := by
  induction rs generalizing s with
  | nil => rfl
  | cons r rs ih => simp [ih]

@[simp] theorem State.foldl_handRecord_claimOf (rs : List FaultRecord) (m : SourceId) :
    (rs.foldl State.handRecord s).claimOf m = s.claimOf m := by
  induction rs generalizing s with
  | nil => rfl
  | cons r rs ih => simp [ih]

/-- The entry of a source whose service ends with descriptor address `addr` (R142). -/
def SourceEntry.withDescAddr (e : SourceEntry) (addr : Option Word) : SourceEntry :=
  { e with route := { e.route with descAddr := addr } }

/-- The first part of the end of a service: its record discarded, the descriptor address written, the records handed
(R142). -/
def State.closeService (s : State) (n : SourceId) (addr : Option Word) (rs : List FaultRecord) : State :=
  rs.foldl State.handRecord (({ s with service := none } : State).setSource n ((s.source n).withDescAddr addr))

theorem State.source_closeService (n : SourceId) (addr : Option Word) (rs : List FaultRecord) :
    (s.closeService n addr rs).source n = (s.source n).withDescAddr addr := by
  simp [State.closeService]

/-- The end of a service that hands its occurrence on (R10), or finds its source disable-pending (R21). -/
theorem State.endService_flag (n : SourceId) (addr : Option Word) (rs : List FaultRecord) (f : EngineFlag) :
    s.endService n addr rs (some f) =
      if (s.source n).route.enable then
        ((s.closeService n addr rs).setSource n
          { (s.source n).withDescAddr addr with
            state := .latched, exclusion := none, flags := (s.source n).flags.withEngine f }).enterBack n
      else (s.closeService n addr rs).setSource n ((s.source n).withDescAddr addr).toDisabled := by
  have hsrc := State.source_closeService (s := s) n addr rs
  change (if ((s.closeService n addr rs).source n).route.enable then
    ((s.closeService n addr rs).setSource n { (s.closeService n addr rs).source n with
      state := .latched, exclusion := none, flags := ((s.closeService n addr rs).source n).flags.withEngine f }).enterBack n
    else (s.closeService n addr rs).setSource n ((s.closeService n addr rs).source n).toDisabled) = _
  rw [hsrc]
  rfl

/-- The end of a service that ends its occurrence (R11). -/
theorem State.endService_none (n : SourceId) (addr : Option Word) (rs : List FaultRecord) :
    s.endService n addr rs none = (s.closeService n addr rs).endOccurrence n := rfl

theorem OkBut.closeService (h : OkBut s []) {v : Service} (hv : s.service = some v) (addr : Option Word)
    (rs : List FaultRecord) : OkBut (s.closeService v.src addr rs) [v.src] :=
  (((h.endService hv).setSource _).foldl_handRecord rs)

/-- A service ends: its source is handed on with an engine flag, or its occurrence ends or is discarded (R142). -/
theorem OkBut.serviceEnds (h : OkBut s []) {v : Service} (hv : s.service = some v) {addr : Option Word}
    (haddr : ∀ w, addr = some w → w.toNat % 16 = 0) (rs : List FaultRecord) (flag : Option EngineFlag) :
    OkBut (s.endService v.src addr rs flag) [] := by
  have hst := h.active_of_service hv
  have hline := h.line_of_service hv
  have hout := h.closeService hv addr rs
  have he : EntryOk (s.closeService v.src addr rs) v.src ((s.source v.src).withDescAddr addr) :=
    ((h.source v.src).entry.withDescAddr hst hline haddr).congr (by simp [State.closeService]; rfl)
  cases flag with
  | none =>
    rw [State.endService_none]
    exact hout.endOccurrence (State.source_closeService v.src addr rs ▸ he)
  | some f =>
    rw [State.endService_flag]
    split
    · rename_i hen
      refine (hout.setSource _).enterBack ?_ ?_ <;> rw [State.source_setSource_self]
      exact (he.handedOn hst hen hline f).congr rfl
    · rename_i hen
      exact hout.rest (EntryOk.toDisabled he.route (Bool.eq_false_iff.mpr hen)) (.inr (.inl rfl))

end Sys2Proof.Machine
end

section
namespace Sys2Proof.Machine
variable {s t : State}

/-! #### The working record -/

/-- An address moved by a unit keeps its alignment, modulo 2 to the power 32 (R138). -/
theorem stepAddr_aligned {st : AddrStep} {u : UnitSize} {a : Word} (h : a.toNat % u.bytes = 0) :
    (stepAddr st u a).toNat % u.bytes = 0 := by
  cases st <;> cases u <;> simp [stepAddr, UnitSize.bytes] at h ⊢ <;> omega

theorem linkOf_aligned {w a : Word} (h : linkOf w = some a) : a.toNat % 16 = 0 := by
  unfold linkOf at h
  split at h <;> cases h
  have hz : (w &&& 0xFFFFFFF0#32) &&& 0xF#32 = 0#32 := by
    rw [BitVec.and_assoc]; simp
  have := congrArg BitVec.toNat hz
  rw [BitVec.toNat_and] at this
  exact (Nat.and_two_pow_sub_one_eq_mod _ 4).symm.trans this

/-- A descriptor that passes the check starts with a unit to move (R136, R137). -/
theorem checkDescriptor_ok {c x y d : Word} {w : Work} (h : checkDescriptor c x y d = .ok w) :
    w.moving ∧ ∀ a, w.link = some a → a.toNat % 16 = 0 := by
  unfold checkDescriptor at h
  repeat' split at h
  all_goals cases h
  rename_i hburst hcount hsrc hdst
  refine ⟨⟨?_, ?_, ?_, by simpa using hsrc, by simpa using hdst⟩, fun a => linkOf_aligned⟩
  · have : (countField c).toNat ≠ 0 := fun hz => hcount (BitVec.eq_of_toNat_eq hz)
    dsimp only
    omega
  · exact Nat.min_le_right _ _
  · dsimp only
    omega

theorem Work.moving_completeUnit {w : Work} (h : w.moving) (hl : w.completeUnit.left ≠ 0) : w.completeUnit.moving := by
  obtain ⟨h1, h2, h3, hsrc, hdst⟩ := h
  have hcount : w.completeUnit.count.toNat = w.count.toNat - 1 := by
    have := w.count.isLt
    simp only [Work.completeUnit, BitVec.toNat_sub]
    simp
    omega
  refine ⟨by omega, ?_, ?_, stepAddr_aligned hsrc, stepAddr_aligned hdst⟩
  · rw [hcount]
    simp only [Work.completeUnit]
    omega
  · simp only [Work.completeUnit]
    omega

namespace ServiceOk

variable {v : Service} {w : Work}

theorem toFetch (h : ServiceOk v) (hw : v.phase.isWriteback = false) {ph : Phase} (hph : ph.work? = none) :
    ServiceOk { v with phase := ph } where
  moving := by simp [hph]
  link := by simp [hph]
  fault hf := by simp [h.fault hf] at hw

theorem toMove (h : ServiceOk v) (hw : v.phase.isWriteback = false) {ph : Phase} (hph : ph.work? = some w)
    (hm : w.moving) (hl : ∀ a, w.link = some a → a.toNat % 16 = 0) : ServiceOk { v with phase := ph } where
  moving := by simp [hph, hm]
  link u a hu := by
    rw [hph] at hu
    cases hu
    exact hl a
  fault hf := by simp [h.fault hf] at hw

theorem toWriteback {f : Bool} {k : Fin 3} (hl : ∀ a, w.link = some a → a.toNat % 16 = 0) :
    ServiceOk { v with moveFault := f, phase := .writeback w k } where
  moving := by simp [Phase.isWriteback]
  link u a hu := by
    cases hu
    exact hl a
  fault _ := rfl

end ServiceOk

/-! #### Answers of the memory bus -/

namespace OkBut

theorem serviceOk (h : OkBut s []) {v : Service} (hv : s.service = some v) : ServiceOk v := h.shared.service v hv

theorem descAddr_aligned (h : OkBut s []) {v : Service} (hv : s.service = some v) :
    ∀ w, some v.descAddr = some w → w.toNat % 16 = 0 := fun w hw =>
  (h.source v.src).entry.route.aligned w ((h.address_of_service hv).trans hw)

theorem fetchError (h : OkBut s []) {v : Service} (hv : s.service = some v) : OkBut (s.fetchError v) [] :=
  h.serviceEnds hv (by simp) _ _

theorem fetchDone (h : OkBut s []) {v : Service} (hv : s.service = some v) {c x y : Word}
    (hph : v.phase = .fetch3 c x y) (d : Word) : OkBut (s.fetchDone v c x y d) [] := by
  unfold State.fetchDone
  split
  · exact h.serviceEnds hv (h.descAddr_aligned hv) _ _
  · split
    · rename_i w hw
      obtain ⟨hm, hl⟩ := checkDescriptor_ok hw
      exact h.setPhase hv ((h.serviceOk hv).toMove (by simp [hph, Phase.isWriteback]) rfl hm hl)
    · exact h.serviceEnds hv (by simp) _ _

theorem fetchAnswer (h : OkBut s []) (a : ReadAnswer) : OkBut (s.fetchAnswer a) [] := by
  unfold State.fetchAnswer
  split
  · exact h
  rename_i v hv
  have hgo : ∀ ph : Phase, v.phase.isWriteback = false → ph.work? = none → OkBut (s.setPhase v ph) [] := fun ph hw hph =>
    h.setPhase hv ((h.serviceOk hv).toFetch hw hph)
  split <;> rename_i hph
  · exact hgo _ (by simp [hph, Phase.isWriteback]) rfl
  · exact hgo _ (by simp [hph, Phase.isWriteback]) rfl
  · exact hgo _ (by simp [hph, Phase.isWriteback]) rfl
  · exact h.fetchDone hv hph _
  · exact h.fetchError hv
  · exact h.fetchError hv
  · exact h.fetchError hv
  · exact h.fetchError hv
  · exact h
  · exact h
  · exact h

theorem moveError (h : OkBut s []) {v : Service} (hv : s.service = some v) {w : Work}
    (hl : ∀ a, w.link = some a → a.toNat % 16 = 0) (ph : BusPhase) : OkBut (s.moveError v w ph) [] :=
  (h.handRecord _).withService (v := v) (by simpa using hv) rfl rfl (ServiceOk.toWriteback hl)

theorem unitReadAnswer (h : OkBut s []) (a : ReadAnswer) : OkBut (s.unitReadAnswer a) [] := by
  unfold State.unitReadAnswer
  split
  · exact h
  rename_i v hv
  split
  case h_2 => exact h
  rename_i w hph
  have hl : ∀ a, w.link = some a → a.toNat % 16 = 0 := fun a => (h.serviceOk hv).link w a (by simp [hph, Phase.work?])
  cases a with
  | completed d =>
    have hm := (h.serviceOk hv).moving w (by simp [hph, Phase.work?]) (by simp [hph, Phase.isWriteback])
    exact h.setPhase hv ((h.serviceOk hv).toMove (by simp [hph, Phase.isWriteback]) rfl hm hl)
  | error => exact h.moveError hv hl _

theorem unitWriteAnswer (h : OkBut s []) (a : WriteAnswer) : OkBut (s.unitWriteAnswer a) [] := by
  unfold State.unitWriteAnswer
  split
  · exact h
  rename_i v hv
  split
  case h_2 => exact h
  rename_i w d hph
  have hl : ∀ a, w.link = some a → a.toNat % 16 = 0 := fun a => (h.serviceOk hv).link w a (by simp [hph, Phase.work?])
  cases a with
  | completed =>
    have hm := (h.serviceOk hv).moving w (by simp [hph, Phase.work?]) (by simp [hph, Phase.isWriteback])
    dsimp only
    unfold State.unitDone
    split
    · exact h.setPhase hv (ServiceOk.toWriteback hl)
    · rename_i hmore
      exact h.setPhase hv ((h.serviceOk hv).toMove (by simp [hph, Phase.isWriteback]) rfl
        (Work.moving_completeUnit hm (not_or.mp hmore).1) hl)
  | error => exact h.moveError hv hl _

theorem endWriteback (h : OkBut s []) {v : Service} (hv : s.service = some v) {w : Work}
    (hl : ∀ a, w.link = some a → a.toNat % 16 = 0) : OkBut (s.endWriteback v w) [] := by
  have haddr : ∀ a, addressAfter v w = some a → a.toNat % 16 = 0 := fun a ha => by
    unfold addressAfter at ha
    split at ha
    · exact hl a ha
    · exact h.descAddr_aligned hv a ha
  unfold State.endWriteback
  split
  · exact h.serviceEnds hv (by simp) _ _
  split
  · exact h.serviceEnds hv haddr _ _
  · exact h.serviceEnds hv haddr _ _

theorem writebackAnswer (h : OkBut s []) (a : WriteAnswer) : OkBut (s.writebackAnswer a) [] := by
  unfold State.writebackAnswer
  split
  · exact h
  rename_i v hv
  split
  case h_2 => exact h
  rename_i w k hph
  have hl : ∀ a, w.link = some a → a.toNat % 16 = 0 := fun a => (h.serviceOk hv).link w a (by simp [hph, Phase.work?])
  split
  · exact h.setPhase hv (ServiceOk.toWriteback hl)
  · exact h.setPhase hv (ServiceOk.toWriteback hl)
  · exact h.endWriteback hv hl
  · exact h.serviceEnds hv (by simp) _ _

end OkBut

/-- An answer that the engine does not wait for changes nothing (R131). -/
theorem updateAttention_eq_of_attnOk (h : AttnOk s) : s.updateAttention = s := by
  have hattn : s.updateAttention.attn = s.attn := Vector.ext fun i hi =>
    (State.attn_updateAttention s ⟨i, hi⟩).trans (attnOk_iff.mp h ⟨i, hi⟩).symm
  exact congrArg (fun a => { s with attn := a }) hattn

/-- An answer of the memory bus keeps the invariant when it does with a service in flight. -/
theorem Inv.answer (h : Inv s) {f : State → State} (hidle : s.service = none → f s = s)
    (hf : OkBut s [] → OkBut (f s) []) : Inv (f s).updateAttention := by
  cases hv : s.service with
  | none => rw [hidle hv, updateAttention_eq_of_attnOk h.attn]; exact h
  | some v => exact (hf (h.okBut (h.awake_of_service hv))).inv_updateAttention

/-! #### The start of a service -/

theorem Inv.startService (h : Inv s) : Inv s.startService := by
  unfold State.startService
  split
  case h_2 => exact h
  rename_i n rest hidle hrun hq
  split
  case h_2 => exact h
  rename_i d hd
  have hk := h.okBut (h.awake_of_queued (n := n) (by simp [hq]))
  have hst : (s.source n).state = .engineWait := (h.engine.waiting n).mpr (by simp [hq])
  have hrest : s.engineQueue.filter (fun m => m != n) = rest := by
    have hnd := h.engine.nodup
    rw [hq] at hnd ⊢
    obtain ⟨hn, -⟩ := List.nodup_cons.mp hnd
    rw [List.filter_cons_of_neg (by simp), List.filter_eq_self]
    intro m hm
    simpa using ne_of_mem_of_not_mem hm hn
  have hout := (hk.unqueue hst).setSource { s.source n with state := .engineActive }
  rw [hrest] at hout
  refine OkBut.inv (hout.serve hidle rfl ?_ ?_ ?_ ⟨by simp [Phase.work?], by simp [Phase.work?], by simp⟩)
    (h.attn.congr rfl (fun _ => ⟨rfl, rfl, rfl⟩) (fun _ => rfl) rfl) <;> rw [State.source_setSource_self]
  · exact ((h.entries n).toEngineActive hst).congr rfl
  · exact hd

end Sys2Proof.Machine
end

section
namespace Sys2Proof.Machine
variable {s t : State}

/-! ### Placement -/

theorem State.firstPlaceable_some {b : BacklogEntry} {pl : Place} (h : s.firstPlaceable = some (b, pl)) :
    b ∈ s.backlog ∧ s.placeOf b.src = some pl := by
  obtain ⟨b', hb', hpl⟩ := List.exists_of_findSome?_eq_some h
  obtain ⟨pl', hpl', heq⟩ := Option.map_eq_some_iff.mp hpl
  cases heq
  exact ⟨hb', hpl'⟩

theorem State.placeOf_engine {n : SourceId} (h : s.placeOf n = some .engine) :
    (s.source n).engineBound = true ∧ s.engineQueue.length < Config.engineRoom := by
  unfold State.placeOf at h
  dsimp only at h
  split at h
  · split at h
    · exact ⟨‹_›, ‹_›⟩
    · cases h
  · split at h <;> cases h

theorem State.placeOf_hosts {n : SourceId} {ports : List Port} (h : s.placeOf n = some (.hosts ports)) :
    (s.source n).engineBound = false ∧ s.hostPlace (s.source n) = ports ∧ ports ≠ [] := by
  unfold State.placeOf at h
  dsimp only at h
  split at h
  · split at h <;> cases h
  · rename_i hb
    split at h
    · cases h
    · rename_i p ps hp
      cases h
      exact ⟨Bool.eq_false_iff.mpr hb, hp, by simp⟩

/-- The ports of a placement to hosts are candidates, each named once, and several only for a CONTEST source (R56, R57,
R59). -/
theorem State.hostPlace_spec (e : SourceEntry) :
    (∀ p ∈ s.hostPlace e, s.candidate e p = true) ∧ (s.hostPlace e).Nodup ∧
      (2 ≤ (s.hostPlace e).length → e.route.mode = .contest) := by
  have hmem : ∀ p ∈ s.candidates e, s.candidate e p = true := fun p hp => (List.mem_filter.mp hp).2
  have hnd : (s.candidates e).Nodup := (List.nodup_finRange 4).filter _
  unfold State.hostPlace
  split
  · refine ⟨fun p hp => hmem p (List.mem_of_mem_take hp), hnd.sublist (List.take_sublist 1 _), fun hl => ?_⟩
    rw [List.length_take] at hl
    omega
  · cases hc : s.sharedChoice e with
    | none => simp
    | some p =>
      have := List.find?_some hc
      rw [State.leastLoaded, Bool.and_eq_true, List.contains_iff_mem] at this
      simpa using hmem p this.1
  · rename_i hm
    exact ⟨hmem, hnd, fun _ => hm⟩

/-- The queue with an offer written into its band (R72, R73). -/
def insertOffer (o : Offer) (q : List Offer) : List Offer :=
  if o.flags.reoffer then insertFront Offer.cls o q else insertBack Offer.cls o q

theorem State.putOffer_eq (p : Port) (o : Offer) : s.putOffer p o = s.setQueue p (insertOffer o (s.queue p)) := rfl

theorem insertOffer_length (o : Offer) (q : List Offer) : (insertOffer o q).length = q.length + 1 := by
  unfold insertOffer
  split
  · exact length_insertFront _ _ _
  · exact length_insertBack _ _ _

theorem insertOffer_ordered (o : Offer) {q : List Offer} (h : q.Pairwise fun a b => b.cls ≤ a.cls) :
    (insertOffer o q).Pairwise fun a b => b.cls ≤ a.cls := by
  unfold insertOffer
  split
  · exact insertFront_ordered _ _ _ h
  · exact insertBack_ordered _ _ _ h

theorem filter_insertOffer_ne {o : Offer} {n : SourceId} (h : o.src ≠ n) (q : List Offer) :
    (insertOffer o q).filter (fun x => x.src == n) = q.filter fun x => x.src == n := by
  unfold insertOffer
  split
  · exact filter_insertFront_of_neg _ _ _ _ (by simp [h])
  · exact filter_insertBack_of_neg _ _ _ _ (by simp [h])

theorem filter_insertOffer_eq {o : Offer} {n : SourceId} (h : o.src = n) {q : List Offer}
    (hq : (q.filter fun x => x.src == n) = []) : (insertOffer o q).filter (fun x => x.src == n) = [o] := by
  unfold insertOffer
  split
  · exact filter_insertFront_of_pos _ _ _ _ (by simp [h]) hq
  · exact filter_insertBack_of_pos _ _ _ _ (by simp [h]) hq

/-- Offers written at several ports change their queues alone. -/
theorem State.foldl_putOffer_eq (ports : List Port) (o : Offer) :
    ports.foldl (fun s p => s.putOffer p o) s =
      { s with offers := (ports.foldl (fun s p => s.putOffer p o) s).offers } := by
  induction ports generalizing s with
  | nil => rfl
  | cons p ps ih => exact ih (s := s.putOffer p o)

theorem State.queue_foldl_putOffer {ports : List Port} (hnd : ports.Nodup) (o : Offer) (r : Port) :
    (ports.foldl (fun s p => s.putOffer p o) s).queue r =
      if r ∈ ports then insertOffer o (s.queue r) else s.queue r := by
  induction ports generalizing s with
  | nil => simp
  | cons p ps ih =>
    obtain ⟨hp, hps⟩ := List.nodup_cons.mp hnd
    rw [List.foldl_cons, ih hps, State.putOffer_eq]
    by_cases hr : r = p
    · subst hr
      simp [hp]
    · rw [State.queue_setQueue_ne s p r _ hr]
      simp [hr]

theorem SharedOk.foldl_putOffer (h : SharedOk s) {ports : List Port} (hnd : ports.Nodup) (o : Offer)
    (hp : ∀ p ∈ ports, s.online p = true ∧ (s.queue p).length < Config.offerRoom) :
    SharedOk (ports.foldl (fun s p => s.putOffer p o) s) := by
  induction ports generalizing s with
  | nil => exact h
  | cons p ps ih =>
    obtain ⟨hn, hps⟩ := List.nodup_cons.mp hnd
    obtain ⟨hon, hroom⟩ := hp p (by simp)
    refine ih (h.setQueue p ?_ (insertOffer_ordered o (h.offerBands p)) (by simp [hon])) hps fun q hq => ?_
    · change (insertOffer o (s.queue p)).length ≤ _
      rw [insertOffer_length]
      exact hroom
    · dsimp only
      rw [State.putOffer_eq, State.queue_setQueue_ne s p q _ (ne_of_mem_of_not_mem hq hn)]
      exact hp q (by simp [hq])

/-- In offer queues and no other collection, a source agrees with a host-bound OFFERED entry. -/
theorem PlacesOk.of_offers {n : SourceId} {e : SourceEntry} {ports : List Port} {o : Offer} (hst : e.state = .offered)
    (ho : o.src = n ∧ o.cls = e.route.cls ∧ o.tag = e.tag ∧ o.flags = e.flags) (hne : ports ≠ [])
    (hel : ∀ p ∈ ports, e.route.eligibleFor p = true) (hc : ∀ p ∈ ports, ∀ q ∈ ports, p ≠ q → e.route.mode = .contest) :
    PlacesOk n e { Places.none with offers := fun p => if p ∈ ports then [o] else [] } where
  backlog := by simp [Places.none, hst]
  offers p := by
    obtain ⟨rfl, h1, h2, h3⟩ := ho
    by_cases hp : p ∈ ports
    · exact .inr ⟨hst, hel p hp, o.contest, by simp [hp, ← h1, ← h2, ← h3]⟩
    · exact .inl (by simp [hp])
  offered _ := by
    obtain ⟨p, hp⟩ := List.exists_mem_of_ne_nil ports hne
    exact ⟨p, by simp [hp]⟩
  contest p q hp hq := hc p (by by_contra h; simp [h] at hp) q (by by_contra h; simp [h] at hq)
  claimed := by simp [Places.none, hst]
  claim := by simp [Places.none]
  unfolded := by simp [Places.none]
  queued := by simp [Places.none, hst]
  armed := by simp [hst]
  active := by simp [Places.none, hst]
  address := by simp [Places.none]

namespace OkBut

theorem latched_of_mem (h : OkBut s []) {b : BacklogEntry} (hb : b ∈ s.backlog) :
    (s.source b.src).state = .latched ∧ b.cls = (s.source b.src).route.cls :=
  ⟨(h.backlogOk.latched b.src).mpr (List.mem_map_of_mem hb), h.backlogOk.classes b hb⟩

theorem placeEngine (h : OkBut s []) {n : SourceId} (hst : (s.source n).state = .latched)
    (hb : (s.source n).engineBound = true) (hroom : s.engineQueue.length < Config.engineRoom) :
    OkBut (s.placeEngine n) [] := by
  refine ((h.dropEntry hst).setSource _).enqueue hroom ?_ ?_ ?_ <;> rw [State.source_setSource_self]
  · exact ((h.source n).entry.toEngineWait hst hb).congr rfl
  · exact hb

/-- Offers of a source in no collection are written into queues with room (R61, R71). -/
theorem offer {n : SourceId} (h : OkBut s [n]) {ports : List Port} {o : Offer} (hnd : ports.Nodup)
    (hp : ∀ p ∈ ports, s.online p = true ∧ (s.queue p).length < Config.offerRoom) (ho : o.src = n)
    (he : EntryOk s n (s.source n))
    (hpl : PlacesOk n (s.source n) { Places.none with offers := fun p => if p ∈ ports then [o] else [] }) :
    OkBut (ports.foldl (fun s p => s.putOffer p o) s) [] := by
  have hshared := h.shared.foldl_putOffer hnd o hp
  have hqueue := State.queue_foldl_putOffer (s := s) hnd o
  rw [State.foldl_putOffer_eq] at hshared hqueue ⊢
  have hplaces : ∀ m, State.places { s with offers := (ports.foldl (fun s p => s.putOffer p o) s).offers } m =
      { s.places m with offers := fun p => if p ∈ ports ∧ m = n then [o] else (s.places m).offers p } := fun m => by
    unfold State.places
    congr 1
    funext p
    rw [hqueue]
    by_cases hpp : p ∈ ports <;> by_cases hm : m = n
    · have hnil : ((s.queue p).filter fun x => x.src == m) = [] := by
        rw [hm]; exact congrFun (congrArg Places.offers (h.out n (by simp))) p
      simp only [hpp, hm, and_self, if_true]
      exact filter_insertOffer_eq ho (hm ▸ hnil)
    · simp only [hpp, hm, and_false, if_true, if_false]
      exact filter_insertOffer_ne (by rw [ho]; exact Ne.symm hm) _
    · simp [hpp]
    · simp [hpp]
  refine h.putIn hshared (fun m hm => ⟨rfl, ?_⟩) ⟨he.congr rfl, ?_⟩
  · rw [hplaces]
    simp [hm]
  · change PlacesOk n (s.source n) _
    rw [hplaces, h.out n (by simp)]
    simpa [Places.none] using hpl

theorem placeHosts (h : OkBut s []) {b : BacklogEntry} (hb : b ∈ s.backlog)
    (hbound : (s.source b.src).engineBound = false) (hne : s.hostPlace (s.source b.src) ≠ []) :
    OkBut (s.placeHosts b (s.hostPlace (s.source b.src))) [] := by
  obtain ⟨hst, hcls⟩ := h.latched_of_mem hb
  obtain ⟨hcand, hnd, hcontest⟩ := State.hostPlace_spec (s := s) (s.source b.src)
  have hc : ∀ p ∈ s.hostPlace (s.source b.src), (s.source b.src).route.eligibleFor p = true ∧ s.online p = true ∧
      (s.queue p).length < Config.offerRoom := fun p hp => by
    have := hcand p hp
    simp only [State.candidate, Bool.and_eq_true, decide_eq_true_eq] at this
    exact ⟨this.1.1.1, this.1.1.2, this.1.2⟩
  refine ((h.dropEntry hst).setSource _).offer hnd (fun p hp => (hc p hp).2) rfl ?_ ?_ <;>
    rw [State.source_setSource_self]
  · exact ((h.source b.src).entry.offeredAt hst hbound _).congr rfl
  · refine PlacesOk.of_offers rfl ⟨rfl, hcls, rfl, rfl⟩ hne (fun p hp => (hc p hp).1) fun p hp q hq hpq => hcontest ?_
    by_contra hlt
    match hl : s.hostPlace (s.source b.src) with
    | [] => exact hne hl
    | [r] => rw [hl] at hp hq; simp_all
    | _ :: _ :: _ => rw [hl] at hlt; simp at hlt

end OkBut

theorem Inv.place (h : Inv s) : Inv s.place := by
  unfold State.place
  split
  · rename_i b hb
    obtain ⟨hmem, hpl⟩ := State.firstPlaceable_some hb
    obtain ⟨hbound, hroom⟩ := State.placeOf_engine hpl
    have hk := h.okBut (h.awake_of_backlog hmem)
    exact (hk.placeEngine (hk.latched_of_mem hmem).1 hbound hroom).inv
      (h.attn.congr rfl (fun _ => ⟨rfl, rfl, rfl⟩) (fun _ => rfl) rfl)
  · rename_i b ports hb
    obtain ⟨hmem, hpl⟩ := State.firstPlaceable_some hb
    obtain ⟨hbound, rfl, hne⟩ := State.placeOf_hosts hpl
    exact ((h.okBut (h.awake_of_backlog hmem)).placeHosts hmem hbound hne).inv_updateAttention
  · exact h

/-! ### Expiry of a claim -/

/-- What the invariant says of the claim of a source. -/
theorem OkBut.claim (h : OkBut s []) {n : SourceId} {c : Claim} (hc : s.claimOf n = some c) :
    (s.source n).state = .claimed ∧ c.payload.isSome = isPosted n ∧
      (isPosted n = true ∨ (s.source n).levelDetected = true → c.fold = 0) := by
  have hp := (h.source n).places
  obtain ⟨-, -, -, hpay⟩ := hp.claim c hc
  exact ⟨hp.claimed.mp (by simp [State.places, hc]), hpay, hp.unfolded c hc⟩

theorem OkBut.expire (h : OkBut s []) {n : SourceId} {c : Claim} (hc : s.claimOf n = some c) :
    OkBut (s.expire n c) [] := by
  obtain ⟨hst, hpay, hfold⟩ := h.claim hc
  have he := (h.source n).entry
  have hout := h.removeClaim hc
  have hgone : (s.removeClaim n c.port).claimOf n = none := hout.claimOf_eq
  have hout := (hout.setSource ((s.source n).expired c)).handRecord (claimExpiredRecord n c
    ((s.source n).expired c).revocations (!((s.source n).expired c).route.enable))
  unfold State.expire
  dsimp only
  split
  · rename_i hen
    exact hout.rest (e := ((s.source n).expired c).toDisabled) (EntryOk.toDisabled he.route (by simpa using hen)) (.inr (.inl rfl))
  rename_i hen
  have hen : (s.source n).route.enable = true := by
    simpa [SourceEntry.expired, SourceEntry.restore] using hen
  split
  · rename_i hrev
    exact (hout.rest ((he.suspend hen hc hst hpay hfold (t := s.removeClaim n c.port) hgone hrev).congr (by simp))
      (.inr (.inr rfl))).handRecord _
  · rename_i hrev
    refine (hout.setSource _).enterFront (by simp) fun m hm => ?_
    rw [List.mem_singleton.mp hm, State.source_setSource_self]
    exact ⟨(he.reenter_expired hen hc hst hpay hfold (t := s.removeClaim n c.port) hgone _ hrev).congr (by simp), rfl⟩

theorem Inv.expiry (h : Inv s) {n : SourceId} (hx : execExpiry n s = .next t) : Inv t := by
  unfold execExpiry at hx
  split at hx <;> cases hx
  · rename_i c hc
    split
    · exact ((h.okBut (h.awake_of_claim hc)).expire hc).inv_updateAttention
    · exact h
  · exact h

end Sys2Proof.Machine
end

section
namespace Sys2Proof.Machine
variable {s t : State}

/-! ### Ports: JOIN, LEAVE, reset -/

/-- A source whose offers alone differ between two states. -/
theorem SourceOk.withOffers {n : SourceId} (h : SourceOk s n) (hs : t.source n = s.source n)
    (hc : (t.places n) = { s.places n with offers := (t.places n).offers })
    (ho : ∀ p, (t.places n).offers p = (s.places n).offers p ∨ (t.places n).offers p = [])
    (hst : (s.source n).state = .offered → ∃ p, (t.places n).offers p ≠ []) : SourceOk t n := by
  have hp := h.places
  have hle : ∀ p, (t.places n).offers p ≠ [] → (s.places n).offers p ≠ [] := fun p hp => by
    rcases ho p with he | he
    · rwa [← he]
    · exact absurd he hp
  refine ⟨?_, ?_⟩ <;> rw [hs]
  · exact h.entry.congr (congrArg (fun v => v.claim.isSome) hc)
  · rw [hc]
    exact { hp with
      offers := fun p => (ho p).elim (fun he => by simpa only [he] using hp.offers p) .inl
      offered := hst
      contest := fun p q h1 h2 => hp.contest p q (hle p h1) (hle q h2) }

/-- The sources that lose their last offer when the queue of port `p` is emptied are those that return (Table 4-3). -/
theorem OkBut.offer_elsewhere (h : OkBut s []) {p : Port} {n : SourceId} (hst : (s.source n).state = .offered)
    (hr : s.returnsFrom p n = false) : ∃ q, q ≠ p ∧ (s.places n).offers q ≠ [] := by
  obtain ⟨q, hq⟩ := (h.source n).places.offered hst
  by_cases hqp : q = p
  · subst hqp
    rw [State.returnsFrom, State.hasOffer_iff.mpr hq] at hr
    simp only [Bool.true_and, Bool.or_eq_false_iff, List.all_eq_false] at hr
    obtain ⟨-, r, -, hr⟩ := hr
    obtain ⟨hrq, hro⟩ : r ≠ q ∧ s.hasOffer r n = true := by simpa using hr
    exact ⟨r, hrq, State.hasOffer_iff.mp hro⟩
  · exact ⟨q, hqp, hq⟩

theorem OkBut.returning (h : OkBut s []) {p : Port} {n : SourceId} (hr : s.returnsFrom p n = true) :
    (s.source n).state = .offered ∧ ∀ q, q ≠ p → (s.places n).offers q = [] := by
  simp only [State.returnsFrom, Bool.and_eq_true, Bool.or_eq_true, bne_iff_ne, ne_eq, List.all_eq_true] at hr
  obtain ⟨ho, hwhy⟩ := hr
  have hpl := (h.source n).places
  have ho' := State.hasOffer_iff.mp ho
  refine ⟨((hpl.offers p).resolve_left ho').1, fun q hq => ?_⟩
  rcases hwhy with hmode | hall
  · by_contra hoq
    exact hmode (hpl.contest p q ho' hoq (Ne.symm hq))
  · have := hall q (List.mem_finRange q)
    by_contra hoq
    simp [hq, State.hasOffer_iff.mpr hoq] at this

/-- A source that returns stands in no collection once the queue of port `p` is emptied. -/
theorem OkBut.places_returning (h : OkBut s []) {p : Port} {n : SourceId} (hr : s.returnsFrom p n = true) :
    { s.places n with offers := fun q => if p = q then [] else (s.places n).offers q } = Places.none := by
  obtain ⟨hst, hothers⟩ := h.returning hr
  have ho : (fun q => if p = q then [] else (s.places n).offers q) = fun _ => [] := funext fun q => by
    by_cases hq : p = q
    · simp [hq]
    · simpa [hq] using hothers q (Ne.symm hq)
  rw [ho, (h.source n).places.eq_of_state, hst]
  rfl

/-- Port `p` gives up its offers, the lease and its state, and the claim table becomes `cl` (R157, R160). -/
theorem SharedOk.giveUp (h : SharedOk s) {p : Port} (hp : s.portResets[p] = false) {r : PortRegs}
    {cl : Vector (Option Claim) 64} {src : Vector SourceEntry 64}
    (hothers : ∀ q, q ≠ p → State.claimCount { s with claims := cl } q = s.claimCount q)
    (hroom : State.claimCount { s with claims := cl } p ≤ Config.claimRoom)
    (hst : r.state = if State.claimCount { s with claims := cl } p = 0 then .offline else .draining) :
    SharedOk { s with sources := src, offers := s.offers.set p [], claims := cl, ports := s.ports.set p r,
                      lease := if s.lease = some p then none else s.lease } := by
  have hnon : r.state ≠ .online := by rw [hst]; split <;> simp
  have hq : ∀ q, (s.setQueue p []).queue q = if p = q then [] else s.queue q := fun q => State.queue_setQueue s p q []
  have hport : ∀ q, (s.modPort p fun _ => r).port q = if p = q then r else s.port q := fun q => State.port_modPort s p q _
  have hcount : ∀ q, q ≠ p → State.claimCount { s with claims := cl } q = s.claimCount q := hothers
  refine
    { h with
      offerRoom := fun q => ?room, offerBands := fun q => ?bands, online := fun q hoff => ?online
      claimRoom := fun q => ?claims, offline := fun q hoff => ?offline, draining := fun q hdr => ?draining
      lease := fun q hl => ?lease, atReset := fun q hpr => ?atReset }
  case room =>
    change ((s.setQueue p []).queue q).length ≤ _
    rw [hq]; split
    · simp
    · exact h.offerRoom q
  case bands =>
    change ((s.setQueue p []).queue q).Pairwise _
    rw [hq]; split
    · simp
    · exact h.offerBands q
  case online =>
    change (s.setQueue p []).queue q = []
    change (((s.modPort p fun _ => r).port q).state == .online) = false at hoff
    rw [hport] at hoff
    rw [hq]
    split
    · rfl
    · rename_i hqp; rw [if_neg hqp] at hoff; exact h.online q hoff
  case claims =>
    by_cases hqp : q = p
    · exact hqp ▸ hroom
    · exact (hcount q hqp).trans_le (h.claimRoom q)
  case offline =>
    change ((s.modPort p fun _ => r).port q).state = _ at hoff
    rw [hport] at hoff
    by_cases hqp : q = p
    · subst hqp
      rw [if_pos rfl, hst] at hoff
      by_contra hz
      change ¬State.claimCount { s with claims := cl } q = 0 at hz
      simp [hz] at hoff
    · rw [if_neg (Ne.symm hqp)] at hoff
      exact (hcount q hqp).trans (h.offline q hoff)
  case draining =>
    change ((s.modPort p fun _ => r).port q).state = _ at hdr
    rw [hport] at hdr
    by_cases hqp : q = p
    · subst hqp
      rw [if_pos rfl, hst] at hdr
      by_contra hz
      have hz : State.claimCount { s with claims := cl } q = 0 := Nat.eq_zero_of_not_pos hz
      simp [hz] at hdr
    · rw [if_neg (Ne.symm hqp)] at hdr
      exact (h.draining q hdr).trans_eq (hcount q hqp).symm
  case lease =>
    change (((s.modPort p fun _ => r).port q).state == .online) = true
    have hl : (if s.lease = some p then none else s.lease) = some q := hl
    split at hl
    · cases hl
    · rename_i hne
      rw [hport, if_neg (show p ≠ q by rintro rfl; exact hne hl)]
      exact h.lease q hl
  case atReset =>
    change (s.modPort p fun _ => r).port q = _
    rw [hport, if_neg (fun hpq => by subst hpq; exact absurd hpr (by simp [hp]))]
    exact h.atReset q hpr

theorem State.source_withdrawPort (p : Port) (n : SourceId) : (s.withdrawPort p).source n = s.entryAtLeave p n := by
  simp [State.source, State.withdrawPort, allSources]

theorem State.places_withdrawPort (p : Port) (m : SourceId) :
    (s.withdrawPort p).places m =
      { s.places m with offers := fun q => if p = q then [] else (s.places m).offers q } := by
  unfold State.places
  congr 1
  funext q
  have : (s.withdrawPort p).queue q = if p = q then [] else s.queue q := State.queue_setQueue s p q []
  rw [this]
  split <;> simp

theorem State.mem_returning {p : Port} {n : SourceId} :
    n ∈ allSources.filter (s.returnsFrom p) ↔ s.returnsFrom p n = true := by
  simp [State.mem_allSources]

/-- The offers of a port that leaves are withdrawn, and the sources that return stand in no collection (R77). -/
theorem OkBut.withdrawPort (h : OkBut s []) {p : Port} (hp : s.portResets[p] = false) :
    OkBut (s.withdrawPort p) (allSources.filter (s.returnsFrom p)) where
  shared := h.shared.giveUp hp (fun _ _ => rfl) (h.shared.claimRoom p) rfl
  others m hm := by
    have hr : s.returnsFrom p m = false := Bool.eq_false_iff.mpr (mt State.mem_returning.mpr hm)
    have hpl := State.places_withdrawPort (s := s) p m
    refine (h.source m).withOffers ?_ (by rw [hpl]) (fun q => ?_) fun hst => ?_
    · rw [State.source_withdrawPort, State.entryAtLeave, hr]
      rfl
    · rw [hpl]
      by_cases hq : p = q <;> simp [hq]
    · obtain ⟨q, hq, ho⟩ := h.offer_elsewhere hst hr
      exact ⟨q, by simpa [hpl, Ne.symm hq] using ho⟩
  out n hn := by
    rw [State.places_withdrawPort, h.places_returning (State.mem_returning.mp hn)]

theorem Inv.leavePort (h : Inv s) {p : Port} (ht : takesAccesses s p) :
    Inv (s.leavePort p).1 ∧ takesAccesses (s.leavePort p).1 p := by
  unfold State.leavePort
  split
  · have hk := h.okBut ht.1
    have hin : OkBut ((s.withdrawPort p).enterFront (allSources.filter (s.returnsFrom p))) [] := by
      refine (hk.withdrawPort ht.2).enterFront ((List.nodup_finRange 64).filter _) fun n hn => ?_
      have hr := State.mem_returning.mp hn
      rw [State.source_withdrawPort, State.entryAtLeave, if_pos hr]
      exact ⟨((h.entries n).reenter_offered (hk.returning hr).1 _).congr rfl, rfl⟩
    exact ⟨hin.inv_updateAttention, by simpa [takesAccesses, State.withdrawPort] using ht⟩
  · exact ⟨h, ht⟩

/-! #### Reset of a port -/

theorem State.claimOf_clearPort (p : Port) (n : SourceId) :
    (s.clearPort p).claimOf n = if s.holds p n then none else s.claimOf n := by
  have : (s.clearPort p).claimOf n = if (s.claimOf n).any (fun c => c.port == p) then none else s.claimOf n := by
    simp [State.claimOf, State.clearPort, State.withoutClaimsOf]
    rfl
  rw [this]
  cases hc : s.claimOf n <;> simp [State.holds, hc]

theorem State.source_clearPort (p : Port) (n : SourceId) : (s.clearPort p).source n = s.entryAtPortReset p n := by
  simp [State.source, State.clearPort, allSources]

theorem State.places_clearPort (p : Port) (m : SourceId) :
    (s.clearPort p).places m =
      { s.places m with
        offers := fun q => if p = q then [] else (s.places m).offers q
        claim := if s.holds p m then none else s.claimOf m } := by
  unfold State.places
  rw [State.claimOf_clearPort]
  congr 1
  funext q
  have : (s.clearPort p).queue q = if p = q then [] else s.queue q := State.queue_setQueue s p q []
  rw [this]
  split <;> simp

theorem State.holds_clearPort (p q : Port) (n : SourceId) :
    (s.clearPort p).holds q n = (s.holds q n && !decide (q = p)) := by
  cases hc : s.claimOf n with
  | none => simp [State.holds, State.claimOf_clearPort, hc]
  | some c =>
    by_cases hcp : c.port = p <;> by_cases hq : q = p <;> simp [State.holds, State.claimOf_clearPort, hc, hcp, hq]
    simp_all [eq_comm]

theorem State.claimCount_clearPort (p q : Port) : (s.clearPort p).claimCount q = if q = p then 0 else s.claimCount q := by
  split
  · exact State.claimCount_eq_zero.mpr fun n => by simp [State.holds_clearPort, *]
  · exact List.countP_congr fun n _ => by simp [State.holds_clearPort, *]

theorem State.entryAtPortReset_claimed {p : Port} {n : SourceId} {c : Claim} (hc : s.claimOf n = some c) :
    s.entryAtPortReset p n =
      if c.port = p then
        if (s.source n).route.enable then ((s.source n).restore c).reenter (some p) else (s.source n).toDisabled
      else s.source n := by
  simp [State.entryAtPortReset, hc]

theorem State.entryAtPortReset_unclaimed {p : Port} {n : SourceId} (hc : s.claimOf n = none) :
    s.entryAtPortReset p n =
      if s.returnsFrom p n then (s.source n).reenter (withdrawalExclusion (s.source n) p) else s.source n := by
  simp [State.entryAtPortReset, hc]

theorem State.mem_portResetGroup {p : Port} {n : SourceId} : n ∈ s.portResetGroup p ↔
    (∃ c, s.claimOf n = some c ∧ c.port = p ∧ (s.source n).route.enable = true) ∨
      (s.claimOf n = none ∧ s.returnsFrom p n = true) := by
  cases hc : s.claimOf n <;> simp [State.portResetGroup, State.mem_allSources, hc]

/-- The reset of a port: its offers and claims are gone, and the sources that return stand in no collection (R160). -/
theorem OkBut.clearPort (h : OkBut s []) {p : Port} (hp : s.portResets[p] = false) :
    OkBut (s.clearPort p) (s.portResetGroup p) where
  shared := by
    have hcount := State.claimCount_clearPort (s := s) p
    refine h.shared.giveUp hp (cl := s.withoutClaimsOf p) (r := .default) (fun q hq => ?_) ?_ ?_
    · exact (hcount q).trans (if_neg hq)
    · exact ((hcount p).trans (if_pos rfl)).trans_le (Nat.zero_le _)
    · exact (if_pos ((hcount p).trans (if_pos rfl))).symm
  others m hm := by
    have hpl := State.places_clearPort (s := s) p m
    have hsrc := State.source_clearPort (s := s) p m
    obtain ⟨hclaim, hret⟩ := not_or.mp (mt State.mem_portResetGroup.mpr hm)
    have hown := h.source m
    cases hc : s.claimOf m with
    | none =>
      have hr : s.returnsFrom p m = false := Bool.eq_false_iff.mpr fun hr => hret ⟨hc, hr⟩
      refine hown.withOffers ?_ ?_ (fun q => ?_) fun hst => ?_
      · rw [hsrc, State.entryAtPortReset_unclaimed hc, hr]
        rfl
      · rw [hpl]
        simp [State.holds, hc, State.places]
      · rw [hpl]
        by_cases hq : p = q <;> simp [hq]
      · obtain ⟨q, hq, ho⟩ := h.offer_elsewhere hst hr
        exact ⟨q, by simpa [hpl, Ne.symm hq] using ho⟩
    | some c =>
      obtain ⟨hst, -⟩ := h.claim hc
      rw [State.entryAtPortReset_claimed hc] at hsrc
      by_cases hcp : c.port = p
      · have hen : (s.source m).route.enable = false := Bool.eq_false_iff.mpr fun hen => hclaim ⟨c, hc, hcp, hen⟩
        rw [if_pos hcp, if_neg (by simp [hen])] at hsrc
        have hnone : (s.clearPort p).places m = .none := by
          rw [hpl, hown.places.eq_of_state, hst]
          simp [State.holds, hc, hcp, Places.none]
        refine ⟨?_, ?_⟩ <;> rw [hsrc]
        · exact EntryOk.toDisabled hown.entry.route hen
        · rw [hnone]
          exact PlacesOk.of_none (.inr (.inl rfl))
      · rw [if_neg hcp] at hsrc
        refine hown.congr hsrc ?_
        rw [hpl]
        rw [hown.places.eq_of_state, hst]
        simp [State.holds, hc, hcp, State.places, Places.none]
  out n hn := by
    rw [State.places_clearPort]
    rcases State.mem_portResetGroup.mp hn with ⟨c, hc, hcp, -⟩ | ⟨hc, hr⟩
    · obtain ⟨hst, -⟩ := h.claim hc
      rw [(h.source n).places.eq_of_state, hst]
      simp [State.holds, hc, hcp, Places.none]
    · rw [← h.places_returning hr]
      simp [State.holds, hc, State.places]

/-- The entries with which the sources return at the reset of a port (R110, R77). -/
theorem OkBut.entry_clearPort (h : OkBut s []) {p : Port} {n : SourceId} (hn : n ∈ s.portResetGroup p) :
    EntryOk (s.clearPort p) n ((s.clearPort p).source n) ∧ ((s.clearPort p).source n).state = .latched := by
  have he := (h.source n).entry
  rw [State.source_clearPort]
  rcases State.mem_portResetGroup.mp hn with ⟨c, hc, hcp, hen⟩ | ⟨hc, hr⟩
  · obtain ⟨hst, hpay, hfold⟩ := h.claim hc
    rw [State.entryAtPortReset_claimed hc, if_pos hcp, if_pos hen]
    refine ⟨he.reenter_claimed hen hc hst hpay hfold ?_ _, rfl⟩
    rw [State.claimOf_clearPort, if_pos (State.holds_iff.mpr ⟨c, hc, hcp⟩)]
  · rw [State.entryAtPortReset_unclaimed hc, if_pos hr]
    refine ⟨(he.reenter_offered (h.returning hr).1 _).congr ?_, rfl⟩
    rw [State.claimOf_clearPort]
    simp [hc]

theorem OkBut.setPortReset {ns : List SourceId} (h : OkBut s ns) {p : Port} (hp : s.port p = .default) :
    OkBut (s.setPortReset p true) ns := by
  have hpr := fun q => State.portResets_setPortReset s p q true
  refine h.takeOut { h.shared with atReset := fun q hq => ?_, held := fun c hc => ?_ } (fun m hm => ⟨hm, rfl, rfl⟩)
    fun m hm => h.out m hm
  · rw [hpr] at hq
    split at hq
    · rename_i hpq; subst hpq; exact hp
    · exact h.shared.atReset q hq
  · obtain ⟨q, hcq, hq⟩ := h.shared.held c hc
    refine ⟨q, hcq, ?_⟩
    rw [hpr]
    split
    · rfl
    · exact hq

theorem Inv.assertPortReset (h : Inv s) (p : Port) : Inv (s.assertPortReset p) := by
  unfold State.assertPortReset
  have hpr := fun q => State.portResets_setPortReset s p q true
  split
  · exact h
  rename_i hp
  have hp : s.portResets[p] = false := Bool.eq_false_iff.mpr hp
  split
  · rename_i hn
    obtain ⟨-, -, -, -, -, hport, -⟩ := h.reset.empty hn
    refine h.withInputs h.time.prescale { empty := h.reset.empty, port := fun q _ => hport q, held := fun c hc => ?_ }
    obtain ⟨q, hq, -⟩ := h.reset.held c hc
    exact ⟨q, hq, fun ht => by
      have : s.resetNote = none := ht.1
      simp [this] at hn⟩
  · rename_i hn
    have hk := h.okBut (by simpa using hn)
    have hout : OkBut ((s.setPortReset p true).clearPort p) (s.portResetGroup p) :=
      (hk.clearPort hp).setPortReset (State.port_modPort_self s p fun _ => .default)
    have hgroup : ∀ n ∈ s.portResetGroup p,
        EntryOk ((s.setPortReset p true).clearPort p) n (((s.setPortReset p true).clearPort p).source n) ∧
        (((s.setPortReset p true).clearPort p).source n).state = .latched := fun n hn =>
      (hk.entry_clearPort hn).imp_left fun he => he.congr rfl
    have hnd : (s.portResetGroup p).Nodup := (List.nodup_finRange 64).filter _
    refine OkBut.inv_updateAttention ?_
    change OkBut (State.enterFront (if s.claimCount p = 0 then _ else _) (s.portResetGroup p)) []
    split
    · exact hout.enterFront hnd hgroup
    · refine (hout.handRecord _).enterFront hnd fun n hn => ?_
      rw [State.handRecord_source]
      exact (hgroup n hn).imp_left fun he => he.congr (by simp)

theorem Inv.portReset (h : Inv s) {prst : PortResetInput} (hx : execPortReset prst s = .next t) : Inv t := by
  unfold execPortReset at hx
  cases hx
  split
  · exact h.assertPortReset _
  · refine h.withInputs h.time.prescale { empty := h.reset.empty, port := fun q hq => ?_, held := fun c hc => ?_ }
    · have hpr := State.portResets_setPortReset s prst.port q false
      have hq : (s.setPortReset prst.port false).portResets[q] = true := hq
      rw [hpr] at hq
      split at hq
      · cases hq
      · exact h.reset.port q hq
    · exact ResetOk.held_letThrough (s := s.setPortReset prst.port false) h.accessPort_held hc

end Sys2Proof.Machine
end

section
namespace Sys2Proof.Machine
variable {s t : State}

/-! ### Commands: port settings, lease, time base and engine settings -/

theorem takesAccesses_of_eq {p : Port} (h : takesAccesses s p) (hn : t.resetNote = s.resetNote)
    (hp : t.portResets = s.portResets) : takesAccesses t p := by
  rw [takesAccesses, hn, hp]
  exact h

/-- The rule of an admitted command changes nothing that its port's refusal reads: it is enough that it keeps the
invariant. -/
theorem Inv.ruleOk {p : Port} {u : State} (hi : Inv u) (h : takesAccesses s p) (hn : u.resetNote = s.resetNote)
    (hp : u.portResets = s.portResets) : Inv u ∧ takesAccesses u p := ⟨hi, takesAccesses_of_eq h hn hp⟩

/-- JOIN (R156): claims and queues are those of a port that becomes ONLINE. -/
theorem Inv.joinPort (h : Inv s) {p : Port} (ht : takesAccesses s p) :
    Inv (s.modPort p fun r => { r with state := .online }).updateAttention := by
  have hk := h.okBut ht.1
  have hport := fun q => State.port_modPort s p q fun r => { r with state := .online }
  refine OkBut.inv_updateAttention (hk.takeOut
    { hk.shared with online := ?online, offline := ?offline, draining := ?draining, lease := ?lease, atReset := ?atReset }
    (fun m hm => ⟨hm, rfl, rfl⟩) (by simp))
  case online =>
    intro q hq
    rw [State.online, hport] at hq
    split at hq
    · simp at hq
    · exact hk.shared.online q hq
  case offline =>
    intro q hq
    rw [hport] at hq
    split at hq
    · simp at hq
    · exact hk.shared.offline q hq
  case draining =>
    intro q hq
    rw [hport] at hq
    split at hq
    · simp at hq
    · exact hk.shared.draining q hq
  case lease =>
    intro q hq
    rw [State.online, hport]
    split
    · simp
    · exact hk.shared.lease q hq
  case atReset =>
    intro q hq
    have hq : s.portResets[q] = true := hq
    rw [hport, if_neg (by rintro rfl; simp [ht.2] at hq)]
    exact hk.shared.atReset q hq

/-- A port setting other than the port state, its attention condition following (R171). -/
theorem Inv.modPort_updateAttention (h : Inv s) {p : Port} (ht : takesAccesses s p) (f : PortRegs → PortRegs)
    (hf : (f (s.port p)).state = (s.port p).state) : Inv (s.modPort p f).updateAttention :=
  ((h.okBut ht.1).modPort p f ht.2 hf).inv_updateAttention

/-- A port setting that no attention condition reads. -/
theorem Inv.modPort (h : Inv s) {p : Port} (ht : takesAccesses s p) (f : PortRegs → PortRegs)
    (hf : (f (s.port p)).state = (s.port p).state ∧ (f (s.port p)).floor = (s.port p).floor ∧
      (f (s.port p)).faultWatch = (s.port p).faultWatch) : Inv (s.modPort p f) := by
  refine ((h.okBut ht.1).modPort p f ht.2 hf.1).inv (h.attn.congr rfl (fun q => ?_) (fun _ => rfl) rfl)
  rw [State.port_modPort]
  split
  · rename_i hq; subst hq; exact hf
  · exact ⟨rfl, rfl, rfl⟩

/-- The lease, the accepted divider, the limits and the run/halt setting. -/
theorem Inv.withSettings (h : Inv s) (awake : s.resetNote = none) {l : Option Port} {d : Nat}
    {limits : Vector (BitVec 16) 4} {r : Bool} (hl : ∀ p, l = some p → s.online p = true)
    (hd : 1 ≤ d ∧ d ≤ Config.dividerMax) :
    Inv { s with lease := l, divider := d, limits := limits, running := r } :=
  have hs : SharedOk { s with lease := l, divider := d, limits := limits, running := r } :=
    { h.sharedOk awake with lease := hl, divider := hd }
  ((h.okBut awake).takeOut hs (fun m hm => ⟨hm, rfl, rfl⟩) (by simp)).inv h.attn

theorem Inv.abortService (h : Inv s) {p : Port} (ht : takesAccesses s p) :
    Inv s.abortService.1 ∧ takesAccesses s.abortService.1 p := by
  unfold State.abortService
  split
  · exact ⟨h, ht⟩
  · rename_i v hv
    have hk := h.okBut ht.1
    have hw := hk.serviceOk hv
    exact ⟨(hk.withService (w := { v with abort := true }) hv rfl rfl { hw with }).inv h.attn, ht⟩

/-! ### Commands: configuration of a source -/

/-- A staging that passes the checks of R23 makes a route record that the part can hold. -/
theorem Staging.routeOk {g : Staging} {n : SourceId} (h : g.badFor n = false) : RouteOk n g.toRoute := by
  simp only [Staging.badFor, Bool.or_eq_false_iff, Bool.and_eq_false_iff] at h
  obtain ⟨⟨⟨⟨⟨hd, hd'⟩, hp⟩, ha⟩, hel⟩, hf⟩ := h
  refine ⟨?_, ?_, by simpa [Staging.toRoute] using hel, fun hm => ?_, fun a ha' => ?_⟩
  · cases hn : isPosted n <;> cases hg : g.detection <;> simp_all [Staging.toRoute]
  · intro hn
    simp_all [Staging.toRoute]
  · have hm : g.mode = .fixed := hm
    simp only [hm, beq_self_eq_true, Bool.true_eq_false, false_or] at hf
    change allPorts.countP (fun p => g.eligible.getLsbD p.val) = 1
    simpa using hf
  · unfold Staging.toRoute at ha'
    dsimp only at ha'
    split at ha'
    · rename_i hpres
      cases ha'
      simpa [hpres] using ha
    · cases ha'

/-- A committed entry fits its state (R24). -/
theorem EntryOk.commit {n : SourceId} {e : SourceEntry} (h : EntryOk s n e) (hst : e.state = .disabled ∨ e.state = .idle)
    {r : Route} (hr : RouteOk n r) : EntryOk s n (e.commit r) := by
  unfold SourceEntry.commit
  dsimp only
  split
  · rename_i hen
    exact EntryOk.toDisabled hr (by simpa using hen)
  rename_i hen
  have hen : r.enable = true := by simpa using hen
  split
  · exact EntryOk.toIdle (e := { e with route := r, payloads := [] }) hr hen rfl
  · rename_i hnd
    have hi := hst.resolve_left hnd
    obtain ⟨h1, h2, -⟩ := h.cleared (.inl hi)
    exact { h with
      route := hr
      enabled := .inr (.inr (.inr hen))
      disabled := by simp [hi]
      again := by simp [h2]
      fresh := by simp [hi]
      hostPath := by simp [hi]
      pending := by simp [hen]
      level := fun _ => ⟨h1, h2⟩ }

theorem SourceEntry.commit_state {e : SourceEntry} (hst : e.state = .disabled ∨ e.state = .idle) (r : Route) :
    (e.commit r).state = if r.enable then .idle else .disabled := by
  unfold SourceEntry.commit
  cases r.enable <;> rcases hst with hst | hst <;> simp [hst, SourceEntry.toIdle, SourceEntry.toDisabled]

theorem SourceEntry.commit_route (e : SourceEntry) (r : Route) : (e.commit r).route = r := by
  unfold SourceEntry.commit
  dsimp only
  split
  · rfl
  · split <;> rfl

theorem Inv.commitRoute (h : Inv s) {p : Port} (ht : takesAccesses s p) :
    Inv (s.commitRoute p).1 ∧ takesAccesses (s.commitRoute p).1 p := by
  unfold State.commitRoute
  dsimp only
  split
  · exact ⟨h, ht⟩
  rename_i hst
  split
  · exact ⟨h, ht⟩
  rename_i hbad
  have hst : (s.source (s.port p).selected).state = .disabled ∨ (s.source (s.port p).selected).state = .idle := by
    by_contra hn
    exact hst (not_or.mp hn)
  have hk := h.okBut ht.1
  have hout := hk.outside (hst.elim (fun hd => .inr (.inl hd)) .inl)
  have he := (h.entries (s.port p).selected).commit hst (Staging.routeOk (Bool.eq_false_iff.mpr hbad))
  have hcs := SourceEntry.commit_state hst (s.port p).staging.toRoute
  split
  · rename_i hl
    obtain ⟨hen, hact⟩ : (s.port p).staging.enable = true ∧ _ := Bool.and_eq_true_iff.mp hl
    refine Inv.ruleOk (OkBut.inv_updateAttention ((hout.setSource _).latch ?_)) ht (by simp) (by simp)
    rw [State.source_setSource_self]
    refine (he.latched ?_ fun hp => ?_).congr rfl
    · rw [SourceEntry.commit_route]
      exact hen
    · simp [State.levelActive, hp] at hact
  · refine Inv.ruleOk (OkBut.inv_updateAttention (hout.rest he ?_)) ht rfl rfl
    rw [hcs]
    split <;> simp

theorem State.setSource_setSource (n : SourceId) (e e' : SourceEntry) :
    (s.setSource n e).setSource n e' = s.setSource n e' := by
  simp [State.setSource, Vector.set_set]

theorem State.setSource_dropEntry (n m : SourceId) (e : SourceEntry) :
    (s.setSource n e).dropEntry m = (s.dropEntry m).setSource n e := rfl

theorem State.setSource_withdraw (n m : SourceId) (e : SourceEntry) (f : Port → Bool) :
    (s.setSource n e).withdraw f m = (s.withdraw f m).setSource n e := rfl

/-- The source leaves the collection that a DISABLE takes it from (R20, Table 1-7). -/
def State.leaveCollection (s : State) (n : SourceId) : State :=
  match (s.source n).state with
  | .latched => s.dropEntry n
  | .offered => s.withdraw (fun _ => true) n
  | .engineWait => { s with engineQueue := s.engineQueue.filter fun m => m != n }
  | .disabled | .idle | .suspended | .claimed | .engineActive => s

/-- The entry with enable off. -/
def SourceEntry.enableOff (e : SourceEntry) : SourceEntry := { e with route := { e.route with enable := false } }

/-- The entry that a DISABLE leaves (R20, Table 1-7). -/
def SourceEntry.disabledBy (e : SourceEntry) : SourceEntry :=
  match e.state with
  | .claimed | .engineActive => e.enableOff.toDisablePending
  | .disabled => e.enableOff
  | .idle | .latched | .offered | .engineWait | .suspended => e.enableOff.toDisabled

/-- What DISABLE does (R20). -/
theorem State.disableSource_eq (n : SourceId) :
    s.disableSource n = (((s.leaveCollection n).setSource n (s.source n).disabledBy).updateAttention, .ok) := by
  cases hst : (s.source n).state <;>
    simp only [State.disableSource, State.leaveCollection, SourceEntry.disabledBy, hst, State.modSource_eq,
      State.source_setSource_self, State.setSource_dropEntry, State.setSource_withdraw, State.setSource_setSource]
  case disabled => rw [SourceEntry.enableOff, hst]
  case idle => rfl
  case suspended => rfl
  case claimed => rw [SourceEntry.enableOff, hst]
  case engineActive => rw [SourceEntry.enableOff, hst]
  case engineWait => rfl
  case latched => rfl
  case offered => rfl

theorem OkBut.disableSource (h : OkBut s []) (n : SourceId) :
    OkBut ((s.leaveCollection n).setSource n (s.source n).disabledBy) [] := by
  have he := (h.source n).entry
  have hdis : EntryOk s n (s.source n).enableOff.toDisabled := EntryOk.toDisabled { he.route with } rfl
  unfold State.leaveCollection SourceEntry.disabledBy
  cases hst : (s.source n).state
  case idle => exact (h.outside (.inl hst)).rest hdis (.inr (.inl rfl))
  case suspended => exact (h.outside (.inr (.inr hst))).rest hdis (.inr (.inl rfl))
  case latched => exact (h.dropEntry hst).rest (hdis.congr rfl) (.inr (.inl rfl))
  case offered => exact (h.withdraw hst).rest (hdis.congr rfl) (.inr (.inl rfl))
  case engineWait => exact (h.unqueue hst).rest (hdis.congr rfl) (.inr (.inl rfl))
  case disabled =>
    have hoff : (s.source n).enableOff = s.source n := by
      have := he.disabled hst
      unfold SourceEntry.enableOff
      rw [← this]
    rw [hoff]
    exact (h.outside (.inr (.inl hst))).rest he (.inr (.inl hst))
  case claimed => exact h.editEntry (he.toDisablePending (.inl hst)) { (h.source n).places with }
  case engineActive => exact h.editEntry (he.toDisablePending (.inr hst)) { (h.source n).places with }

theorem State.leaveCollection_takesAccesses {p : Port} {n : SourceId} {e : SourceEntry} (h : takesAccesses s p) :
    takesAccesses ((s.leaveCollection n).setSource n e).updateAttention p := by
  unfold State.leaveCollection
  split <;> exact h

theorem Inv.disableSource (h : Inv s) {p : Port} (n : SourceId) (ht : takesAccesses s p) :
    Inv (s.disableSource n).1 ∧ takesAccesses (s.disableSource n).1 p := by
  rw [State.disableSource_eq]
  exact ⟨((h.okBut ht.1).disableSource n).inv_updateAttention, State.leaveCollection_takesAccesses ht⟩

theorem Inv.resumeSource (h : Inv s) {p : Port} (n : SourceId) (ht : takesAccesses s p) :
    Inv (s.resumeSource n).1 ∧ takesAccesses (s.resumeSource n).1 p := by
  unfold State.resumeSource
  split
  · rename_i hst
    refine Inv.ruleOk (OkBut.inv_updateAttention ?_) ht (by simp) (by simp)
    refine (((h.okBut ht.1).outside (.inr (.inr hst))).setSource _).enterFront (by simp) fun m hm => ?_
    rw [List.mem_singleton.mp hm, State.source_setSource_self]
    exact ⟨((h.entries n).resumed hst).congr rfl, rfl⟩
  · exact ⟨h, ht⟩

end Sys2Proof.Machine
end

section
namespace Sys2Proof.Machine
variable {s t : State}

/-! ### Commands: POST and UNPOST -/

theorem State.payloadTotal_eq {n : SourceId} (h : OkBut s []) (hp : isPosted n = true) :
    s.payloadTotal n = (s.source n).payloads.length + (if isPosted n ∧ (s.claimOf n).isSome then 1 else 0) := by
  unfold State.payloadTotal
  cases hc : s.claimOf n with
  | none => simp
  | some c =>
    obtain ⟨-, hpay, -⟩ := h.claim hc
    rw [hp, Option.isSome_iff_exists] at hpay
    obtain ⟨d, hd⟩ := hpay
    simp [hp, hd]

theorem Inv.postPayload (h : Inv s) {p : Port} (n : SourceId) (d : Payload) (ht : takesAccesses s p) :
    Inv (s.postPayload n d).1 ∧ takesAccesses (s.postPayload n d).1 p := by
  unfold State.postPayload
  split
  · exact ⟨h, ht⟩
  rename_i hp
  have hp : isPosted n = true := by simpa using hp
  split
  · exact ⟨h, ht⟩
  rename_i hen
  have hen : (s.source n).route.enable = true := by simpa using hen
  split
  · exact ⟨h, ht⟩
  rename_i hfull
  have hk := h.okBut ht.1
  have he := h.entries n
  rw [State.payloadTotal_eq hk hp] at hfull
  have hroom : ((s.source n).payloads ++ [d]).length + (if isPosted n ∧ (s.claimOf n).isSome then 1 else 0) ≤
      Config.payloadRoom := by
    rw [List.length_append, List.length_singleton]
    omega
  dsimp only
  split
  · rename_i hst
    have hst : (s.source n).state = .idle := by simpa using hst
    refine Inv.ruleOk (OkBut.inv_updateAttention (((hk.outside (.inl hst)).setSource _).latch ?_)) ht (by simp) (by simp)
    rw [State.source_setSource_self]
    exact (he.latchedWith hen hp (by simp) hroom).congr rfl
  · rename_i hst
    have hst : (s.source n).state ≠ .idle := by simpa using hst
    refine Inv.ruleOk (OkBut.inv_updateAttention ?_) ht rfl rfl
    exact hk.editEntry (he.withPayloads hen hp hst hroom fun _ => by simp) { (hk.source n).places with }

/-- The current occurrence of a source out of its collection is discarded with its head payload (R40). -/
theorem OkBut.discardHead {n : SourceId} (h : OkBut s [n]) (he : EntryOk s n (s.source n)) (hp : isPosted n = true)
    (hen : (s.source n).route.enable = true) : OkBut (s.discardHead n) [] := by
  unfold State.discardHead
  dsimp only
  rw [State.modSource_eq, State.source_setSource_self]
  split
  · rename_i hnil
    have hnil : (s.source n).payloads.tail = [] := by simpa using hnil
    rw [State.modSource_eq, State.setSource_setSource, State.source_setSource_self]
    exact h.rest (EntryOk.toIdle (e := { s.source n with payloads := (s.source n).payloads.tail }) he.route hen hnil) (.inl rfl)
  · rename_i hne
    have hne : (s.source n).payloads.tail ≠ [] := by simpa using hne
    refine (h.setSource _).latch ?_
    rw [State.source_setSource_self]
    refine (he.latchedWith hen hp hne ?_).congr rfl
    have := he.payloads
    rw [List.length_tail]
    omega

theorem Inv.unpostSource (h : Inv s) {p : Port} (n : SourceId) (ht : takesAccesses s p) :
    Inv (s.unpostSource n).1 ∧ takesAccesses (s.unpostSource n).1 p := by
  unfold State.unpostSource
  split
  · exact ⟨h, ht⟩
  rename_i hp
  have hp : isPosted n = true := by simpa using hp
  split
  · exact ⟨h, ht⟩
  rename_i hen
  have hen : (s.source n).route.enable = true := by simpa using hen
  have hk := h.okBut ht.1
  have he := h.entries n
  have hedit : ∀ ps : List Payload, (s.source n).state ≠ .idle → ps.length ≤ (s.source n).payloads.length →
      ((s.source n).state ≠ .claimed → ps ≠ []) →
      Inv (s.modSource n fun e => { e with payloads := ps }) := fun ps hst hlen hhead => by
    refine (hk.editEntry (he.withPayloads hen hp hst ?_ hhead) { (hk.source n).places with }).inv h.attn
    have := he.payloads
    omega
  have hdiscard : ∀ u : State, OkBut u [n] → u.source n = s.source n → OkBut (u.discardHead n) [] := fun u hu hsrc =>
    hu.discardHead (hsrc ▸ he.unclaim hu.claimOf_eq) hp (hsrc ▸ hen)
  have htake : ∀ u : State, u.resetNote = s.resetNote → u.portResets = s.portResets →
      takesAccesses (u.discardHead n).updateAttention p := fun u hn hpr => by
    refine takesAccesses_of_eq ht ?_ ?_ <;> unfold State.discardHead <;> dsimp only <;> split <;> simp [hn, hpr]
  split
  · rename_i hst
    exact ⟨(hdiscard _ (hk.dropEntry hst) rfl).inv_updateAttention, htake _ rfl rfl⟩
  · rename_i hst
    exact ⟨(hdiscard _ (hk.withdraw hst) rfl).inv_updateAttention, htake _ rfl rfl⟩
  · rename_i hst
    split
    · exact ⟨h, ht⟩
    · rename_i d rest hq
      exact ⟨hedit rest (by simp [hst]) (by simp [hq]) (by simp [hst]), ht⟩
  · rename_i hst
    split
    · rename_i d d' rest hq
      exact ⟨hedit (d :: rest) (by simp [hst]) (by simp [hq]) (by simp), ht⟩
    · exact ⟨h, ht⟩
  · exact ⟨h, ht⟩
  · exact ⟨h, ht⟩
  · exact ⟨h, ht⟩
  · exact ⟨h, ht⟩

/-! ### Claims -/

/-- A claim at an ONLINE port with room (R88, R92). -/
theorem SharedOk.setClaim (h : SharedOk s) {n : SourceId} {c : Claim} (hnone : s.claimOf n = none)
    (hon : s.online c.port = true) (hroom : s.claimCount c.port < Config.claimRoom) : SharedOk (s.setClaim n (some c)) := by
  have hcount := fun q => State.claimOf_mono_count (s := s) (p := q) (n := n) (c := c) hnone
  refine { h with claimRoom := fun q => ?_, offline := fun q hq => ?_, draining := fun q hq => ?_ }
  · rw [hcount]
    split
    · rename_i hq; subst hq; exact hroom
    · exact h.claimRoom q
  · have hq : (s.port q).state = .offline := hq
    rw [hcount, if_neg, h.offline q hq]
    rintro rfl
    simp [State.online, hq] at hon
  · rw [hcount]
    exact (h.draining q hq).trans_le (Nat.le_add_right _ _)

/-- With a claim and in no collection, a source agrees with a CLAIMED entry. -/
theorem PlacesOk.of_claim {n : SourceId} {e : SourceEntry} {c : Claim} (hst : e.state = .claimed)
    (hc : c.tag = e.tag ∧ c.cls = e.route.cls ∧ c.flags = e.flags ∧ c.payload.isSome = isPosted n)
    (hf : isPosted n = true ∨ e.levelDetected = true → c.fold = 0) :
    PlacesOk n e { Places.none with claim := some c } := by
  constructor
  case unfolded => simpa using hf
  all_goals simp [Places.none, hst, hc]

namespace OkBut

variable {n : SourceId}

/-- The offer at the head of a queue is taken, and its siblings are withdrawn (R75, R93). -/
theorem takeHead (h : OkBut s []) {p : Port} {o : Offer} {rest : List Offer} (hq : s.queue p = o :: rest) :
    OkBut ((s.setQueue p rest).withdraw (fun q => q != p) o.src) [o.src] := by
  have hpl := (h.source o.src).places
  have hhead : (s.places o.src).offers p = o :: rest.filter fun x => x.src == o.src := by simp [State.places, hq]
  have hst : (s.source o.src).state = .offered := ((hpl.offers p).resolve_left (by simp [hhead])).1
  have hrest : (rest.filter fun x => x.src == o.src) = [] := by
    obtain ⟨-, -, c, hc⟩ := (hpl.offers p).resolve_left (by simp [hhead])
    rw [hhead] at hc
    exact (List.cons.inj hc).2
  have hshared : SharedOk ((s.setQueue p rest).withdraw (fun q => q != p) o.src) := by
    have hroom := h.shared.offerRoom p
    have hbands := h.shared.offerBands p
    rw [hq] at hroom hbands
    refine (h.shared.setQueue p (by simp at hroom; omega) (List.pairwise_cons.mp hbands).2 fun hoff => ?_).withdraw _ _
    have := h.shared.online p hoff
    simp [hq] at this
  have hplaces : ∀ m, ((s.setQueue p rest).withdraw (fun q => q != p) o.src).places m =
      { s.places m with offers := fun q => if m = o.src then [] else (s.places m).offers q } := fun m => by
    rw [State.places_withdraw, State.places_setQueue]
    refine Places.ext rfl (funext fun q => ?_) rfl rfl rfl
    by_cases hqp : p = q
    · subst hqp
      by_cases hm : m = o.src
      · simpa [hm] using hrest
      · simp [hm, State.places, hq, Ne.symm hm]
    · by_cases hm : m = o.src <;> simp [hm, hqp, Ne.symm hqp]
  refine h.takeOut hshared (fun m hm => ⟨by simp, rfl, ?_⟩) fun m hm => ?_
  · rw [hplaces]
    simp [show m ≠ o.src by simpa using hm]
  · rw [List.mem_singleton.mp hm, hplaces, hpl.eq_of_state, hst]
    simp [Places.none]

/-- A source becomes CLAIMED (R93). -/
theorem enterClaim (h : OkBut s [n]) {c : Claim} (hon : s.online c.port = true)
    (hroom : s.claimCount c.port < Config.claimRoom) (he : EntryOk (s.setClaim n (some c)) n (s.source n))
    (hst : (s.source n).state = .claimed)
    (hc : c.tag = (s.source n).tag ∧ c.cls = (s.source n).route.cls ∧ c.flags = (s.source n).flags ∧
      c.payload.isSome = isPosted n)
    (hf : isPosted n = true ∨ (s.source n).levelDetected = true → c.fold = 0) : OkBut (s.setClaim n (some c)) [] := by
  refine h.putIn (h.shared.setClaim h.claimOf_eq hon hroom) (fun m hm => ⟨rfl, ?_⟩) ⟨he, ?_⟩
  · rw [State.places_setClaim, if_neg (Ne.symm hm)]
  · rw [State.places_setClaim, if_pos rfl, h.out n (by simp), State.setClaim_source]
    exact PlacesOk.of_claim hst hc hf

/-- The claim of a source changes in its timer and renewals alone. -/
theorem editClaim (h : OkBut s []) {c c' : Claim} (hc : s.claimOf n = some c)
    (heq : c' = { c with remaining := c'.remaining, renewals := c'.renewals }) : OkBut (s.setClaim n (some c')) [] := by
  have hport : c'.port = c.port := by rw [heq]
  have hclaim : ∀ m, (s.setClaim n (some c')).claimOf m = if n = m then some c' else s.claimOf m :=
    fun m => State.claimOf_setClaim s n m _
  have hcount : ∀ q, (s.setClaim n (some c')).claimCount q = s.claimCount q := fun q => by
    refine List.countP_congr fun m _ => ?_
    rw [State.holds_iff, State.holds_iff, hclaim]
    by_cases hm : n = m
    · subst hm; simp [hc, hport]
    · simp [hm]
  have hshared : SharedOk (s.setClaim n (some c')) :=
    { h.shared with
      claimRoom := fun q => (hcount q).trans_le (h.shared.claimRoom q)
      offline := fun q hq => (hcount q).trans (h.shared.offline q hq)
      draining := fun q hq => (h.shared.draining q hq).trans_eq (hcount q).symm }
  have hp := (h.source n).places
  refine h.edit (n := n) hshared (fun m hm => ⟨rfl, ?_⟩) ⟨(h.source n).entry.congr (by simp [hc]), ?_⟩
  · rw [State.places_setClaim, if_neg (Ne.symm hm)]
  · rw [State.places_setClaim, if_pos rfl]
    refine { hp with claimed := ?_, claim := fun d hd => ?_, unfolded := fun d hd => ?_ }
    · exact iff_of_true rfl (h.claim hc).1
    · cases hd
      rw [heq]
      exact hp.claim c hc
    · cases hd
      rw [heq]
      exact hp.unfolded c hc

end OkBut

theorem Inv.makeClaim (h : Inv s) {p : Port} {o : Offer} {rest : List Offer} (ht : takesAccesses s p)
    (hon : (s.port p).state = .online) (hq : s.queue p = o :: rest) (hroom : s.claimCount p < Config.claimRoom) :
    Inv (s.makeClaim p o rest) := by
  have hk := h.okBut ht.1
  have he := h.entries o.src
  obtain ⟨hst, hcls, htag, hflags, -⟩ := h.offers.agree p o (by simp [hq])
  have hin : OkBut ((((s.setQueue p rest).withdraw (fun q => q != p) o.src).setSource o.src
      ((s.source o.src).claimedNow o.src)).setClaim o.src (some (s.newClaim p o))) [] := by
    refine ((hk.takeHead hq).setSource _).enterClaim ?_ hroom ?_ ?_ ?_ ?_
    · simpa [State.online, State.newClaim] using hon
    all_goals rw [State.source_setSource_self]
    · exact he.claimedNow hst
    · rfl
    · refine ⟨htag, hcls, hflags, ?_⟩
      cases hp : isPosted o.src with
      | true =>
        have hne := he.head hp (.inr (.inl hst))
        cases hpay : (s.source o.src).payloads <;> simp_all [State.newClaim]
      | false => simp [State.newClaim, hp]
    · rintro (hp | hl)
      · exact (he.posted hp).1
      · exact (he.level hl).1
  have hregs := (((hin.modPort p (fun r => { r with claimData := some ⟨o.src, (s.newClaim p o).payload, (s.newClaim p o).fold⟩ })
    ht.2 rfl).inv_updateAttention.returnWord p (claimWord o.src (s.newClaim p o))).okBut ht.1).modPort p
    (fun r => { r with result := .ok }) ht.2 rfl
  exact hregs.inv_updateAttention

theorem Inv.answerTake (h : Inv s) {p : Port} (ht : takesAccesses s p) (w : BitVec 4) (c : Result) :
    Inv (s.answerTake p w c) := (h.returnWord p _).setResult ht c

theorem Inv.claimRead (h : Inv s) {p : Port} (ht : takesAccesses s p) : Inv (s.claimRead p) := by
  unfold State.claimRead
  split
  · exact h.answerTake ht _ _
  · exact h.answerTake ht _ _
  · rename_i hon
    split
    · exact h.answerTake ht _ _
    · rename_i o rest hq
      split
      · exact h.answerTake ht _ _
      · exact h.makeClaim ht hon hq (by omega)

theorem Inv.faultRead (h : Inv s) {p : Port} (ht : takesAccesses s p) : Inv (s.faultRead p) := by
  unfold State.faultRead
  split
  · exact (h.returnWord p _).setResult ht _
  split
  · exact (h.returnWord p _).setResult ht _
  · rename_i r rest hf
    have hk := h.okBut ht.1
    have hroom : rest.length ≤ Config.faultRoom := by
      have := h.faults
      rw [FaultsOk, hf, List.length_cons] at this
      omega
    have hpop : OkBut { s with faults := rest } [] :=
      hk.takeOut { hk.shared with faults := hroom } (fun m hm => ⟨hm, rfl, rfl⟩) (by simp)
    have hregs := (hpop.modPort p (fun q => { q with faultData := some r.secondWord, result := .ok }) ht.2 rfl)
    exact (hregs.takeOut (hregs.shared.returnWord p r.firstWord) (fun m hm => ⟨hm, rfl, rfl⟩) (by simp)).inv_updateAttention

/-- COMPLETE, RETURN and EXTEND keep the invariant when their rule does on a claim that the port holds (R99). -/
theorem Inv.matchClaim (h : Inv s) {p : Port} {n : SourceId} {tag : Tag} {rule : State → Claim → State × Result}
    (ht : takesAccesses s p)
    (hr : ∀ c, s.claimOf n = some c → Inv (rule s c).1 ∧ takesAccesses (rule s c).1 p) :
    Inv (s.matchClaim p n tag rule).1 ∧ takesAccesses (s.matchClaim p n tag rule).1 p := by
  unfold State.matchClaim
  split
  · exact ⟨h, ht⟩
  rename_i c hc
  split
  · exact ⟨h, ht⟩
  split
  · exact ⟨h, ht⟩
  · exact hr c hc

theorem Inv.completeClaim (h : Inv s) {p : Port} {n : SourceId} {c : Claim} (ht : takesAccesses s p)
    (hc : s.claimOf n = some c) : Inv (s.completeClaim n c).1 ∧ takesAccesses (s.completeClaim n c).1 p := by
  have hout := (h.okBut ht.1).removeClaim hc
  refine Inv.ruleOk (OkBut.inv_updateAttention (hout.endOccurrence ?_)) ht (by simp [State.completeClaim])
    (by simp [State.completeClaim])
  rw [State.removeClaim_source]
  exact (h.entries n).unclaim hout.claimOf_eq

theorem Inv.giveBack (h : Inv s) {p : Port} {n : SourceId} {c : Claim} (ht : takesAccesses s p)
    (hc : s.claimOf n = some c) : Inv (s.giveBack n c).1 ∧ takesAccesses (s.giveBack n c).1 p := by
  have hk := h.okBut ht.1
  have hout := hk.removeClaim hc
  obtain ⟨hst, hpay, hfold⟩ := hk.claim hc
  unfold State.giveBack
  dsimp only
  split
  · rename_i hen
    refine Inv.ruleOk (OkBut.inv_updateAttention ((hout.setSource _).enterFront (by simp) fun m hm => ?_)) ht (by simp)
      (by simp)
    rw [List.mem_singleton.mp hm, State.source_setSource_self]
    exact ⟨((h.entries n).reenter_claimed hen hc hst hpay hfold (t := s.removeClaim n c.port) hout.claimOf_eq _).congr rfl, rfl⟩
  · rename_i hen
    exact Inv.ruleOk (OkBut.inv_updateAttention (hout.rest
      (EntryOk.toDisabled (h.entries n).route (by simpa using hen)) (.inr (.inl rfl)))) ht
      (State.removeClaim_resetNote s n c.port) (State.removeClaim_portResets s n c.port)

theorem Inv.extendClaim (h : Inv s) {p : Port} {n : SourceId} {c : Claim} (ht : takesAccesses s p)
    (hc : s.claimOf n = some c) : Inv (s.extendClaim n c).1 ∧ takesAccesses (s.extendClaim n c).1 p := by
  unfold State.extendClaim
  split
  · exact ⟨h, ht⟩
  split
  · exact ⟨h, ht⟩
  · exact ⟨((h.okBut ht.1).editClaim hc rfl).inv (h.attn.congr rfl (fun _ => ⟨rfl, rfl, rfl⟩) (fun _ => rfl) rfl), ht⟩

end Sys2Proof.Machine
end

section
namespace Sys2Proof.Machine
variable {s t : State}

/-! ### Every command keeps the invariant -/

/-- What a command does keeps the invariant of the part, from every state that meets it. -/
theorem Inv.exec (h : Inv s) {c : Instr} (hx : exec c s = .next t) : Inv t := by
  cases c with
  | powerOn levels =>
    rw [exec_powerOn] at hx
    obtain rfl := Host.Outcome.next.inj hx
    exact (inv_powerOn levels).withPending _
  | partReset =>
    rw [exec_partReset] at hx
    cases hx
    split
    · exact h
    · exact h.assertReset
  | resetRelease levels =>
    rw [exec_resetRelease, execResetRelease] at hx
    split at hx <;> obtain rfl := Host.Outcome.next.inj hx
    · exact h.releaseReset _ levels
    · exact h
  | portReset prst => exact h.portReset hx
  | lineChange l level => exact h.lineChange hx
  | placement => cases hx; exact h.place
  | tick =>
    rw [exec_tick] at hx
    cases hx
    split
    · exact h
    · exact h.takeTick
  | expiry n => exact h.expiry hx
  | serviceStart => cases hx; exact h.startService
  | fetchAnswer a =>
    rw [exec_fetchAnswer] at hx
    cases hx
    exact h.answer (f := (·.fetchAnswer a)) (fun hv => by simp [State.fetchAnswer, hv]) (·.fetchAnswer a)
  | unitReadAnswer a =>
    rw [exec_unitReadAnswer] at hx
    cases hx
    exact h.answer (f := (·.unitReadAnswer a)) (fun hv => by simp [State.unitReadAnswer, hv]) (·.unitReadAnswer a)
  | unitWriteAnswer a =>
    rw [exec_unitWriteAnswer] at hx
    cases hx
    exact h.answer (f := (·.unitWriteAnswer a)) (fun hv => by simp [State.unitWriteAnswer, hv]) (·.unitWriteAnswer a)
  | writebackAnswer a =>
    rw [exec_writebackAnswer] at hx
    cases hx
    exact h.answer (f := (·.writebackAnswer a)) (fun hv => by simp [State.writebackAnswer, hv]) (·.writebackAnswer a)
  | join p => rw [exec_join] at hx; exact h.command rfl (fun ht _ => ⟨h.joinPort ht, ht⟩) hx
  | leave p => rw [exec_leave] at hx; exact h.command rfl (fun ht _ => h.leavePort ht) hx
  | leaseTake p =>
    rw [exec_leaseTake] at hx
    refine h.command rfl (fun ht ha => ?_) hx
    have hon := (State.refusal_none s .onlineOnly p).mp ha
    unfold State.takeLease
    split
    · exact ⟨h.withSettings ht.1 (by simpa [State.online] using hon) h.time.divider, ht⟩
    · exact ⟨h, ht⟩
  | leaseDrop p =>
    rw [exec_leaseDrop] at hx
    refine h.command rfl (fun ht _ => ?_) hx
    unfold State.dropLease
    split
    · exact ⟨h.withSettings ht.1 (by simp) h.time.divider, ht⟩
    · exact ⟨h, ht⟩
  | routeSelect p n =>
    rw [exec_routeSelect] at hx
    refine h.command rfl (fun ht _ => ?_) hx
    unfold State.selectRoute
    exact ⟨h.modPort ht (fun _ => _) ⟨rfl, rfl, rfl⟩, ht⟩
  | staging0 p w =>
    rw [exec_staging0] at hx
    refine h.command rfl (fun ht _ => ?_) hx
    unfold State.writeStaging0
    split
    · exact ⟨h.modPort ht (fun _ => _) ⟨rfl, rfl, rfl⟩, ht⟩
    · exact ⟨h, ht⟩
  | staging1 p w =>
    rw [exec_staging1] at hx
    refine h.command rfl (fun ht _ => ?_) hx
    unfold State.writeStaging1
    exact ⟨h.modPort ht (fun _ => _) ⟨rfl, rfl, rfl⟩, ht⟩
  | routeCommit p => rw [exec_routeCommit] at hx; exact h.command rfl (fun ht _ => h.commitRoute ht) hx
  | disable p n => rw [exec_disable] at hx; exact h.command rfl (fun ht _ => h.disableSource n ht) hx
  | resume p n => rw [exec_resume] at hx; exact h.command rfl (fun ht _ => h.resumeSource n ht) hx
  | post p n d => rw [exec_post] at hx; exact h.command rfl (fun ht _ => h.postPayload n d ht) hx
  | unpost p n => rw [exec_unpost] at hx; exact h.command rfl (fun ht _ => h.unpostSource n ht) hx
  | claim p => rw [exec_claim] at hx; exact h.orHold rfl (fun ht => h.claimRead ht) hx
  | complete p n tag =>
    rw [exec_complete] at hx
    exact h.command rfl (fun ht _ => h.matchClaim ht fun _ hc => h.completeClaim ht hc) hx
  | returnClaim p n tag =>
    rw [exec_returnClaim] at hx
    exact h.command rfl (fun ht _ => h.matchClaim ht fun _ hc => h.giveBack ht hc) hx
  | extend p n tag =>
    rw [exec_extend] at hx
    exact h.command rfl (fun ht _ => h.matchClaim ht fun _ hc => h.extendClaim ht hc) hx
  | floor p v =>
    rw [exec_floor] at hx
    refine h.command rfl (fun ht _ => ?_) hx
    unfold State.writeFloor
    split
    · exact ⟨h.modPort_updateAttention ht _ rfl, ht⟩
    · exact ⟨h, ht⟩
  | faultWatch p on =>
    rw [exec_faultWatch] at hx
    exact h.command rfl (fun ht _ => ⟨h.modPort_updateAttention ht _ rfl, ht⟩) hx
  | tickDivider p v =>
    rw [exec_tickDivider] at hx
    refine h.command rfl (fun ht _ => ?_) hx
    unfold State.writeDivider
    split
    · exact ⟨h.withSettings ht.1 h.ports.lease (by assumption), ht⟩
    · exact ⟨h, ht⟩
  | limit p i v =>
    rw [exec_limit] at hx
    refine h.command rfl (fun ht _ => ?_) hx
    unfold State.writeLimit
    split
    · exact ⟨h.withSettings ht.1 h.ports.lease h.time.divider, ht⟩
    · exact ⟨h, ht⟩
  | run p =>
    rw [exec_run] at hx
    exact h.command rfl (fun ht _ => ⟨h.withSettings ht.1 h.ports.lease h.time.divider, ht⟩) hx
  | halt p =>
    rw [exec_halt] at hx
    exact h.command rfl (fun ht _ => ⟨h.withSettings ht.1 h.ports.lease h.time.divider, ht⟩) hx
  | abort p => rw [exec_abort] at hx; exact h.command rfl (fun ht _ => h.abortService ht) hx
  | fault p => rw [exec_fault] at hx; exact h.orHold rfl (fun ht => h.faultRead ht) hx
  | narrowTakeRead p reg enables =>
    rw [exec_narrowTakeRead] at hx
    exact h.orHold rfl (fun _ => h.returnWord p 0) hx
  | undefinedAccess p a =>
    rw [exec_undefinedAccess] at hx
    split at hx
    · refine h.orHold rfl (fun _ => ?_) hx
      split
      · exact h
      · exact h.returnWord p 0
    · cases hx

/-- A step keeps the invariant of the part. -/
theorem Inv.step (h : Inv s) (hx : step s = .next t) : Inv t := by
  unfold Machine.step at hx
  split at hx
  · cases hx
    exact h.clockCycle
  · exact (h.withPending _).exec hx

/-- Settles O4: at power-on every collection is empty and every port stands at its default settings. -/
theorem resetMeetsInvariant : Obligations.ResetMeetsInvariant := inv_powerOn 0

/-- Settles O5, command by command: each takes its sources out of their collections and puts them where their new entries
say (`OkBut`). -/
theorem invariantKeptByStep : Obligations.InvariantKeptByStep := fun _ _ h hx => h.step hx

end Sys2Proof.Machine
end

section
namespace Sys2Proof.Machine

/-! ### The terms in which the statements say what a step changes -/

variable {s t u : State}

theorem newOccurrence_eq (e : SourceEntry) : newOccurrence e = e.fresh := rfl
theorem enteredIdle_eq (e : SourceEntry) : enteredIdle e = e.toIdle := rfl
theorem enteredDisabled_eq (e : SourceEntry) : enteredDisabled e = e.toDisabled := rfl

/-- Level detection judges the line of a source as Table 2-2 does (R33). -/
theorem State.levelActive_eq (n : SourceId) : s.levelActive n = lineActive s n (s.source n) := by
  unfold State.levelActive lineActive
  cases (s.source n).route.detection with
  | none => simp
  | some d => cases d <;> simp [Detection.active, beq_eq_decide]

/-- The UNSERVED check finds what R63 says. -/
theorem unservedDue_source (n : SourceId) :
    unservedDue s (s.source n) = (!(s.source n).engineBound && s.noEligibleOnline n && !(s.source n).unserved) := by
  unfold unservedDue SourceEntry.engineBound SourceEntry.armed State.noEligibleOnline
  cases (s.source n).route.descAddr <;> cases (s.source n).flags.done <;> simp

/-! #### Fault records -/

theorem State.handRecord_books_congr (r : FaultRecord) (hf : t.faults = s.faults) (hd : t.dropped = s.dropped) :
    (t.handRecord r).faults = (s.handRecord r).faults ∧ (t.handRecord r).dropped = (s.handRecord r).dropped := by
  unfold State.handRecord
  rw [hf, hd]
  split <;> simp

/-- What the fault queue becomes depends on the fault queue and the dropped count alone (R175). -/
theorem State.foldl_handRecord_congr (rs : List FaultRecord) (hf : t.faults = s.faults) (hd : t.dropped = s.dropped) :
    (rs.foldl State.handRecord t).faults = (rs.foldl State.handRecord s).faults ∧
      (rs.foldl State.handRecord t).dropped = (rs.foldl State.handRecord s).dropped := by
  induction rs generalizing s t with
  | nil => exact ⟨hf, hd⟩
  | cons r rs ih =>
    obtain ⟨hf', hd'⟩ := State.handRecord_books_congr r hf hd
    exact ih hf' hd'

theorem RecordsHanded.refl (hf : t.faults = s.faults) (hd : t.dropped = s.dropped) : RecordsHanded s t [] := ⟨hf, hd⟩

/-- Records handed in two parts. -/
theorem RecordsHanded.append {rs rs' : List FaultRecord} (h : RecordsHanded s t rs) (h' : RecordsHanded t u rs') :
    RecordsHanded s u (rs ++ rs') := by
  obtain ⟨hf, hd⟩ := State.foldl_handRecord_congr rs' h.faults h.dropped
  exact ⟨by rw [h'.faults, hf, List.foldl_append], by rw [h'.dropped, hd, List.foldl_append]⟩

theorem recordsHanded_foldl (rs : List FaultRecord) : RecordsHanded s (rs.foldl State.handRecord s) rs := ⟨rfl, rfl⟩

/-- The record of the UNSERVED check (R63, R65). -/
theorem State.recordsHanded_unservedCheck (n : SourceId) :
    RecordsHanded s (s.unservedCheck n)
      (if unservedDue s (s.source n) then [unservedRecord n (s.source n)] else []) := by
  unfold State.unservedCheck
  rw [← unservedDue_source]
  split
  · exact ⟨rfl, rfl⟩
  · exact ⟨rfl, rfl⟩

/-! #### What a statement about the backlog reads -/

/-- Two states with the same source table, backlog, fault queue and port states. -/
structure SameBooks (s t : State) : Prop where
  sources : t.sources = s.sources
  backlog : t.backlog = s.backlog
  faults  : t.faults = s.faults
  dropped : t.dropped = s.dropped
  online  : ∀ p, t.online p = s.online p

namespace SameBooks

theorem updateAttention : SameBooks s s.updateAttention := ⟨rfl, rfl, rfl, rfl, fun _ => rfl⟩

theorem setResult (p : Port) (c : Result) : SameBooks s (s.setResult p c) :=
  ⟨rfl, rfl, rfl, rfl, fun q => by simp [State.online]⟩

theorem trans (h : SameBooks s t) (h' : SameBooks t u) : SameBooks s u :=
  ⟨h'.sources.trans h.sources, h'.backlog.trans h.backlog, h'.faults.trans h.faults, h'.dropped.trans h.dropped,
    fun p => (h'.online p).trans (h.online p)⟩

/-- The end of a command that changes what the attention outputs follow. -/
theorem commandEnd (p : Port) (c : Result) : SameBooks s (s.updateAttention.setResult p c) :=
  updateAttention.trans (setResult p c)

theorem source (h : SameBooks s t) (n : SourceId) : t.source n = s.source n := by
  simp only [State.source, h.sources]

theorem unservedDue (h : SameBooks s t) (e : SourceEntry) : unservedDue t e = unservedDue s e := by
  simp only [Machine.unservedDue, h.online]

end SameBooks

section
variable {n : SourceId} {e : SourceEntry} {b : List BacklogEntry} {before : List FaultRecord}

theorem RecordsHanded.congr (h : RecordsHanded s t before) (ht : SameBooks t u) : RecordsHanded s u before :=
  ⟨ht.faults.trans h.faults, ht.dropped.trans h.dropped⟩

theorem Enters.congr (h : Enters s t n e b before) (ht : SameBooks t u) : Enters s u n e b before where
  backlog := ht.backlog.trans h.backlog
  source := ⟨by rw [ht.source, h.source.source, ht.unservedDue], fun m hm => (ht.source m).trans (h.source.others m hm)⟩
  records := by rw [ht.unservedDue]; exact h.records.congr ht

theorem StaysOut.congr (h : StaysOut s t n e before) (ht : SameBooks t u) : StaysOut s u n e before where
  backlog := ht.backlog.trans h.backlog
  source := ⟨(ht.source n).trans h.source.source, fun m hm => (ht.source m).trans (h.source.others m hm)⟩
  records := h.records.congr ht

theorem OccurrenceEnds.congr (h : OccurrenceEnds s t n e before) (ht : SameBooks t u) : OccurrenceEnds s u n e before where
  disabled hen := (h.disabled hen).congr ht
  again hen ha := (h.again hen ha).congr ht
  payload hen ha hp hq := (h.payload hen ha hp hq).congr ht
  level hen ha hl := (h.level hen ha hl).congr ht
  idle hen ha hp hl := (h.idle hen ha hp hl).congr ht

/-! #### What the shared operations write -/

theorem StaysOut.setSource (h : StaysOut s u n e before) (e' : SourceEntry) :
    StaysOut s (u.setSource n e') n e' before where
  backlog := h.backlog
  source := ⟨State.source_setSource_self u n e', fun m hm => by
    rw [State.source_setSource_ne u n m e' hm, h.source.others m hm]⟩
  records := ⟨h.records.faults, h.records.dropped⟩

theorem StaysOut.rfl_source : StaysOut s s n (s.source n) [] := ⟨rfl, ⟨rfl, fun _ _ => rfl⟩, ⟨rfl, rfl⟩⟩

/-- The entry of a source is written, and nothing else. -/
theorem State.staysOut_setSource (e : SourceEntry) : StaysOut s (s.setSource n e) n e [] :=
  StaysOut.rfl_source.setSource e

/-- A backlog entry is made for a source, which is checked for UNSERVED (R47, R63). -/
theorem StaysOut.enters (h : StaysOut s u n e before) (b : List BacklogEntry) :
    Enters s (({ u with backlog := b } : State).unservedCheck n) n e b before := by
  have hsrc : ({ u with backlog := b } : State).source n = e := h.source.source
  have hrec := State.recordsHanded_unservedCheck (s := { u with backlog := b }) n
  have hdue : unservedDue (({ u with backlog := b } : State).unservedCheck n) e = unservedDue { u with backlog := b } e := by
    simp only [unservedDue, State.online, State.unservedCheck_port]
  rw [hsrc] at hrec
  refine ⟨by simp, ⟨?_, fun m hm => ?_⟩, ?_⟩
  · rw [State.source_unservedCheck, if_pos rfl, hdue, ← hsrc, unservedDue_source]
    cases ({ u with backlog := b } : State).source n |>.unserved <;> simp
  · rw [State.source_unservedCheck, if_neg (Ne.symm hm)]
    exact h.source.others m hm
  · rw [hdue]
    exact RecordsHanded.append (t := { u with backlog := b }) ⟨h.records.faults, h.records.dropped⟩ hrec

theorem StaysOut.enterBack (h : StaysOut s u n e before) : EntersBack s (u.enterBack n) n e before := by
  have he : u.entryFor n = ⟨n, e.route.cls⟩ := by rw [State.entryFor, h.source.source]
  unfold State.enterBack
  rw [he, h.backlog]
  exact h.enters _

theorem StaysOut.enterFront (h : StaysOut s u n e before) : EntersFront s (u.enterFront [n]) n e before := by
  have he : u.entryFor n = ⟨n, e.route.cls⟩ := by rw [State.entryFor, h.source.source]
  change Enters s (({ u with backlog := insertFront BacklogEntry.cls (u.entryFor n) u.backlog } : State).unservedCheck n)
    n e _ before
  rw [he, h.backlog]
  exact h.enters _

/-- A new occurrence of a source goes to the back of its band (R6). -/
theorem StaysOut.latch (h : StaysOut s u n e before) : EntersBack s (u.latch n) n (newOccurrence e) before := by
  unfold State.latch
  rw [State.modSource_eq, h.source.source]
  exact (h.setSource _).enterBack

theorem lineActive_congr (h : t.currentSample = s.currentSample) (n : SourceId) (e : SourceEntry) :
    lineActive t n e = lineActive s n e := by
  simp only [lineActive, h]

/-- The end of an occurrence writes what R11 says. -/
theorem StaysOut.endOccurrence (h : StaysOut s u n e before) (hsample : u.currentSample = s.currentSample) :
    OccurrenceEnds s (u.endOccurrence n) n e before := by
  have hline : u.levelActive n = lineActive s n e := by
    rw [State.levelActive_eq, h.source.source, lineActive_congr hsample]
  have hcases := u.endOccurrence_cases n
  rw [h.source.source, hline] at hcases
  constructor
  · intro hen
    rcases hcases with ⟨-, heq⟩ | ⟨hen', -⟩ | ⟨hen', -⟩ | ⟨hen', -⟩
    · rw [heq]; exact h.setSource _
    all_goals rw [hen] at hen'; cases hen'
  · intro hen ha
    rcases hcases with ⟨hen', -⟩ | ⟨-, -, heq⟩ | ⟨-, ha', -⟩ | ⟨-, ha', -⟩
    · rw [hen] at hen'; cases hen'
    · rw [heq]; exact (h.setSource _).enterBack
    all_goals rw [ha] at ha'; cases ha'
  · intro hen ha hp hq
    rcases hcases with ⟨hen', -⟩ | ⟨-, ha', -⟩ | ⟨-, -, -, heq⟩ | ⟨-, -, hp', -⟩
    · rw [hen] at hen'; cases hen'
    · rw [ha] at ha'; cases ha'
    · rw [heq]; exact h.latch
    · rcases hp' with hp' | hq'
      · rw [hp] at hp'; cases hp'
      · exact absurd hq' hq
  · intro hen ha hl
    rcases hcases with ⟨hen', -⟩ | ⟨-, ha', -⟩ | ⟨-, -, -, heq⟩ | ⟨-, -, -, hl', -⟩
    · rw [hen] at hen'; cases hen'
    · rw [ha] at ha'; cases ha'
    · rw [heq]; exact h.latch
    · rw [hl] at hl'; cases hl'
  · intro hen ha hp hl
    rcases hcases with ⟨hen', -⟩ | ⟨-, ha', -⟩ | ⟨-, -, hwhy, -⟩ | ⟨-, -, -, -, heq⟩
    · rw [hen] at hen'; cases hen'
    · rw [ha] at ha'; cases ha'
    · rcases hwhy with hwhy | hl'
      · exact absurd hwhy hp
      · rw [hl] at hl'; cases hl'
    · rw [heq]; exact h.setSource _

end

/-! #### Frames -/

/-- Nothing but the source table, the backlog, the fault queue and the attention outputs differs. -/
def OffBooks (s t : State) : Prop :=
  t = { s with sources := t.sources, backlog := t.backlog, faults := t.faults, dropped := t.dropped, attn := t.attn }

namespace OffBooks

theorem refl : OffBooks s s := Eq.refl _

theorem trans (h : OffBooks s t) (h' : OffBooks t u) : OffBooks s u :=
  Eq.trans h' (congrArg (fun x : State => { x with
    sources := u.sources, backlog := u.backlog, faults := u.faults, dropped := u.dropped, attn := u.attn }) h)

theorem setSource (n : SourceId) (e : SourceEntry) : OffBooks s (s.setSource n e) := Eq.refl _

theorem updateAttention : OffBooks s s.updateAttention := Eq.refl _

theorem withBacklog (b : List BacklogEntry) : OffBooks s { s with backlog := b } := Eq.refl _

theorem handRecord (r : FaultRecord) : OffBooks s (s.handRecord r) := by
  unfold State.handRecord
  split <;> exact Eq.refl _

theorem foldl_handRecord (rs : List FaultRecord) : OffBooks s (rs.foldl State.handRecord s) := by
  induction rs generalizing s with
  | nil => exact OffBooks.refl
  | cons r rs ih => exact (handRecord r).trans ih

theorem unservedCheck (n : SourceId) : OffBooks s (s.unservedCheck n) := by
  unfold State.unservedCheck
  split
  · exact (handRecord _).trans (setSource n _)
  · exact OffBooks.refl

theorem foldl_unservedCheck (ns : List SourceId) : OffBooks s (ns.foldl State.unservedCheck s) := by
  induction ns generalizing s with
  | nil => exact OffBooks.refl
  | cons n ns ih => exact (unservedCheck n).trans ih

theorem enterBack (n : SourceId) : OffBooks s (s.enterBack n) := (withBacklog _).trans (unservedCheck n)

theorem enterFront (ns : List SourceId) : OffBooks s (s.enterFront ns) := (withBacklog _).trans (foldl_unservedCheck ns)

theorem latch (n : SourceId) : OffBooks s (s.latch n) := (setSource n _).trans (enterBack n)

theorem endOccurrence (n : SourceId) : OffBooks s (s.endOccurrence n) := by
  rcases s.endOccurrence_cases n with ⟨-, heq⟩ | ⟨-, -, heq⟩ | ⟨-, -, -, heq⟩ | ⟨-, -, -, -, heq⟩ <;> rw [heq]
  · exact setSource n _
  · exact (setSource n _).trans (enterBack n)
  · exact latch n
  · exact setSource n _

theorem port (h : OffBooks s t) (p : Port) : t.port p = s.port p := by
  rw [h]
  exact Eq.refl _

/-- A command that changes the books leaves beside them its code in RESULT. -/
theorem setResult (h : OffBooks s t) (p : Port) (c : Result) :
    t.setResult p c = { s with sources := t.sources, backlog := t.backlog, faults := t.faults, dropped := t.dropped,
                               attn := t.attn, ports := (t.setResult p c).ports } :=
  congrArg (fun x : State => { x with ports := (t.setResult p c).ports }) h

end OffBooks

/-! #### The code of a command -/

/-- What a command that is taken leaves (R162, R164). -/
theorem State.command_taken {c : Instr} {p : Port} {a : Admission} {rule : State → State × Result}
    (h : takesAccesses s p) (ha : s.refusal a p = none) :
    s.command c p a rule = .next ((rule s).1.setResult p (rule s).2) :=
  State.command_admitted s c p a rule ((State.holding_eq_false s p).mpr h) ha

/-- RESULT takes a code at one port, where nothing else of the settings differs from `s`. -/
theorem portBecomes_setResult {p : Port} (h : ∀ q, t.port q = s.port q) (c : Result) :
    PortBecomes s (t.setResult p c) p { s.port p with result := c } where
  port := by rw [State.port_setResult_self, h]
  others q hq := by rw [State.port_setResult_ne t p q c hq, h]

/-- The end of a command that changes no port setting beside its code. -/
theorem portBecomes_commandEnd {p : Port} (h : ∀ q, t.port q = s.port q) (c : Result) :
    PortBecomes s (t.updateAttention.setResult p c) p { s.port p with result := c } :=
  portBecomes_setResult (t := t.updateAttention) h c

theorem State.onlyResult_setResult (p : Port) (c : Result) : OnlyResult s (s.setResult p c) p c :=
  ⟨rfl, portBecomes_setResult (fun _ => rfl) c⟩

theorem attnOk_commandEnd (p : Port) (c : Result) : AttnOk (s.updateAttention.setResult p c) :=
  attnOk_updateAttention.setResult p c

end Sys2Proof.Machine
end

section
namespace Sys2Proof.Machine

variable {s t u : State}

/-! ### Power-on, part reset and the queue of commands -/

/-- Settles O1. -/
theorem frontCommandIsTaken : Obligations.FrontCommandIsTaken := fun s c rest h => by
  unfold step
  rw [h]

/-- Settles O3: the power-on state field by field, the accesses held on the local buses in front of the queue. -/
theorem powerOnValues : Obligations.PowerOnValues := by
  intro levels s
  refine ⟨_, exec_powerOn s levels, fun n => State.source_powerOn levels n, rfl, fun p => State.queue_powerOn levels p,
    fun n => State.claimOf_powerOn levels n, fun p => State.port_powerOn levels p, rfl, fun p => ?_, fun p => ?_,
    fun p => ?_, rfl, rfl, rfl, rfl, rfl, rfl, rfl, rfl, rfl, rfl, rfl, rfl, rfl, rfl, fun hl hq => ?_⟩
  · exact Vector.getElem_replicate p.isLt
  · exact Vector.getElem_replicate p.isLt
  · exact Vector.getElem_replicate p.isLt
  · rw [hl, hq]
    rfl

/-- Settles O36: the assertion of RESET writes the fields that `State.assertReset` names and keeps the others. -/
theorem partResetAsserted : Obligations.PartResetAsserted := by
  intro s hn
  refine ⟨s.assertReset, by simp [exec_partReset, hn], ?_, fun n => ?_, fun p => State.queue_assertReset p,
    fun n => State.claimOf_assertReset n, fun p => State.port_assertReset p, State.attn_assertReset⟩
  · have hcut : s.cutService = s.service.map fun v => ⟨v.src, (s.source v.src).tag, v.descAddr⟩ := by
      unfold State.cutService
      cases s.service <;> rfl
    have hnote : s.assertReset.resetNote = some ⟨s.cutService, s.claimTotal⟩ := rfl
    rw [hcut] at hnote
    exact congrArg (fun note => { s.assertReset with resetNote := note }) hnote
  · rw [State.source_assertReset]
    cases hen : (s.source n).route.enable <;> simp only [SourceEntry.partReset, hen] <;> rfl

/-! ### ROUTE COMMIT -/

/-- A set of ports has one member exactly when it is one bit. -/
theorem countP_eligible_eq_one (b : BitVec 4) :
    allPorts.countP (fun p => b.getLsbD p.val) = 1 ↔ ∃ q : Port, b = BitVec.twoPow 4 q.val := by
  revert b
  decide

/-- The checks of R23 in its own terms. -/
theorem Staging.badFor_iff (g : Staging) (n : SourceId) : g.badFor n = true ↔
    (48 ≤ n.val ∧ g.detection ≠ none) ∨ (n.val < 48 ∧ g.detection = none) ∨ (48 ≤ n.val ∧ g.descPresent = true) ∨
      (g.descPresent = true ∧ g.descAddr.toNat % 16 ≠ 0) ∨ g.eligible = 0 ∨
      (g.mode = .fixed ∧ ¬∃ q : Port, g.eligible = BitVec.twoPow 4 q.val) := by
  rw [← countP_eligible_eq_one]
  simp [Staging.badFor, isPosted, or_assoc, Option.isSome_iff_ne_none]

theorem State.commitRoute_busy {p : Port} (h1 : (s.source (s.port p).selected).state ≠ .disabled)
    (h2 : (s.source (s.port p).selected).state ≠ .idle) : s.commitRoute p = (s, .busy) := by
  simp [State.commitRoute, h1, h2]

theorem State.commitRoute_invalid {p : Port}
    (hst : (s.source (s.port p).selected).state = .disabled ∨ (s.source (s.port p).selected).state = .idle)
    (hbad : (s.port p).staging.badFor (s.port p).selected = true) : s.commitRoute p = (s, .invalid) := by
  unfold State.commitRoute
  rcases hst with hst | hst <;> simp [hst, hbad]

/-- A staging that passes its checks replaces the record, and an active level latches (R24). -/
theorem State.commitRoute_applied {p : Port} {n : SourceId} {g : Staging} (hn : (s.port p).selected = n)
    (hg : (s.port p).staging = g) (hst : (s.source n).state = .disabled ∨ (s.source n).state = .idle)
    (hgood : g.badFor n = false) :
    s.commitRoute p =
      ((if g.enable && lineActive s n { s.source n with route := g.toRoute } then
          (s.setSource n ((s.source n).commit g.toRoute)).latch n
        else s.setSource n ((s.source n).commit g.toRoute)).updateAttention, .ok) := by
  have hline : (s.setSource n ((s.source n).commit g.toRoute)).levelActive n =
      lineActive s n { s.source n with route := g.toRoute } := by
    rw [State.levelActive_eq, State.source_setSource_self]
    simp only [lineActive, SourceEntry.commit_route]
    rfl
  unfold State.commitRoute
  dsimp only
  rw [hn, hg, State.modSource_eq, hline, hgood, if_neg]
  · rfl
  · rcases hst with hst | hst <;> simp [hst]

/-- Settles O20. -/
theorem routeCommitRefusals : Obligations.RouteCommitRefusals := by
  intro s p ht hon hl n g
  have hx := State.command_taken (c := .routeCommit p) (rule := State.commitRoute p) ht
    ((State.refusal_none s .leaseHolder p).mpr ⟨hon, hl⟩)
  rw [← exec_routeCommit] at hx
  refine ⟨fun h1 h2 => ?_, fun hst hbad => ?_⟩
  · rw [State.commitRoute_busy h1 h2] at hx
    exact ⟨_, hx, State.onlyResult_setResult p .busy⟩
  · rw [State.commitRoute_invalid hst ((Staging.badFor_iff g n).mpr hbad)] at hx
    exact ⟨_, hx, State.onlyResult_setResult p .invalid⟩

/-- The entry that a commit leaves with enable on (R24). -/
theorem SourceEntry.commit_enabled (e : SourceEntry) {r : Route} (hr : r.enable = true) :
    e.commit r =
      if e.state = .disabled then { enteredIdle { e with route := r } with payloads := [] } else { e with route := r } := by
  simp only [SourceEntry.commit, hr]
  rfl

theorem SourceEntry.commit_disabled (e : SourceEntry) {r : Route} (hr : r.enable = false) :
    e.commit r = enteredDisabled { e with route := r } := by
  simp only [SourceEntry.commit, hr]
  rfl

/-- Settles O21: the entry is written first, and a line at its active level then latches it. -/
theorem routeCommitApplies : Obligations.RouteCommitApplies := by
  intro s p ht hon hl n g hst hdet hdesc hel hfix e e'
  have hx := State.command_taken (c := .routeCommit p) (rule := State.commitRoute p) ht
    ((State.refusal_none s .leaseHolder p).mpr ⟨hon, hl⟩)
  have hgood : g.badFor n = false := by
    refine Bool.eq_false_iff.mpr fun hbad => ?_
    rcases (Staging.badFor_iff g n).mp hbad with ⟨h1, h2⟩ | ⟨h1, h2⟩ | ⟨h1, h2⟩ | ⟨h1, h2⟩ | h1 | ⟨h1, h2⟩
    · exact absurd (hdet.mpr h2) (by omega)
    · exact hdet.mp h1 h2
    · exact absurd (hdesc h2).1 (by omega)
    · exact h2 (hdesc h1).2
    · exact hel h1
    · exact h2 (hfix h1)
  rw [← exec_routeCommit, State.commitRoute_applied rfl rfl hst hgood] at hx
  have hstay : StaysOut s (s.setSource n ((s.source n).commit g.toRoute)) n ((s.source n).commit g.toRoute) [] :=
    State.staysOut_setSource _
  generalize hv : (if g.enable && lineActive s n e then (s.setSource n ((s.source n).commit g.toRoute)).latch n
    else s.setSource n ((s.source n).commit g.toRoute)) = v
  replace hx : exec (.routeCommit p) s = .next (v.updateAttention.setResult p .ok) := hv ▸ hx
  have hoff : OffBooks s v := by
    rw [← hv]
    split
    · exact (OffBooks.setSource n _).trans (OffBooks.latch n)
    · exact OffBooks.setSource n _
  have hdisabled : g.enable = false → (s.source n).commit g.toRoute = enteredDisabled e :=
    (s.source n).commit_disabled (r := g.toRoute)
  have henabled : g.enable = true → (s.source n).commit g.toRoute = e' :=
    (s.source n).commit_enabled (r := g.toRoute)
  refine ⟨_, hx, (hoff.trans OffBooks.updateAttention).setResult p .ok, fun hen => ?_, fun hen hline => ?_,
    fun hen hline => ?_, portBecomes_commandEnd hoff.port .ok, attnOk_commandEnd p .ok⟩
  · rw [hen, Bool.false_and, if_neg Bool.false_ne_true] at hv
    rw [← hdisabled hen, ← hv]
    exact hstay.congr (SameBooks.commandEnd p .ok)
  · rw [hen, hline, Bool.and_false, if_neg Bool.false_ne_true] at hv
    rw [← henabled hen, ← hv]
    exact hstay.congr (SameBooks.commandEnd p .ok)
  · rw [hen, hline, Bool.and_true, if_pos rfl] at hv
    rw [← henabled hen, ← hv]
    exact hstay.latch.congr (SameBooks.commandEnd p .ok)

end Sys2Proof.Machine
end

section
namespace Sys2Proof.Machine

variable {s t u : State}

/-! ### DISABLE and RESUME -/

/-- The backlog after the source has left its collection for a DISABLE. -/
theorem State.leaveCollection_backlog (n : SourceId) : (s.leaveCollection n).backlog =
    if (s.source n).state = .latched then s.backlog.filter fun b => b.src ≠ n else s.backlog := by
  unfold State.leaveCollection
  cases (s.source n).state <;> simp [State.dropEntry, bne, beq_eq_decide]

theorem State.leaveCollection_engineQueue (n : SourceId) : (s.leaveCollection n).engineQueue =
    if (s.source n).state = .engineWait then s.engineQueue.filter fun m => m ≠ n else s.engineQueue := by
  unfold State.leaveCollection
  cases (s.source n).state <;> simp [bne, beq_eq_decide]

theorem State.leaveCollection_queue (n : SourceId) (q : Port) : (s.leaveCollection n).queue q =
    if (s.source n).state = .offered then (s.queue q).filter (fun o => o.src ≠ n) else s.queue q := by
  unfold State.leaveCollection
  cases (s.source n).state
  case offered => simp [State.queue_withdraw, bne, beq_eq_decide]
  all_goals exact (if_neg (by simp)).symm

theorem State.leaveCollection_frame (n : SourceId) : s.leaveCollection n =
    { s with backlog := (s.leaveCollection n).backlog, offers := (s.leaveCollection n).offers,
             engineQueue := (s.leaveCollection n).engineQueue } := by
  unfold State.leaveCollection
  split <;> rfl

/-- The entry after DISABLE in each state (R20, Table 1-7). -/
theorem SourceEntry.disabledBy_eq (e : SourceEntry) : e.disabledBy =
    if e.state = .claimed ∨ e.state = .engineActive then { e.enableOff with payloads := [], fold := 0, again := false }
    else if e.state = .disabled then e.enableOff else enteredDisabled e.enableOff := by
  unfold SourceEntry.disabledBy
  cases hst : e.state <;> simp <;> rfl

/-- Settles O22, by the state in which the DISABLE finds its source. -/
theorem disableByState : Obligations.DisableByState := by
  intro s p n ht hon hl e st
  have hx := State.command_taken (c := .disable p n) (rule := State.disableSource n) ht
    ((State.refusal_none s .leaseHolder p).mpr ⟨hon, hl⟩)
  rw [← exec_disable, State.disableSource_eq] at hx
  have hport : ∀ q, ((s.leaveCollection n).setSource n (s.source n).disabledBy).port q = s.port q := fun q => by
    rw [State.leaveCollection_frame]; rfl
  refine ⟨_, hx, ?_, ⟨?_, fun m hm => ?_⟩, State.leaveCollection_backlog n, fun q => State.leaveCollection_queue n q,
    State.leaveCollection_engineQueue n, portBecomes_commandEnd hport .ok, attnOk_commandEnd p .ok⟩
  · let t := ((s.leaveCollection n).setSource n (s.source n).disabledBy).updateAttention.setResult p .ok
    exact congrArg (fun u : State => { u with sources := t.sources, attn := t.attn, ports := t.ports })
      (State.leaveCollection_frame n)
  · rw [State.setResult_source, State.updateAttention_source, State.source_setSource_self]
    exact (s.source n).disabledBy_eq
  · rw [State.setResult_source, State.updateAttention_source, State.source_setSource_ne _ n m _ hm,
      State.leaveCollection_frame]
    rfl

/-- Settles O23. -/
theorem resumeReenters : Obligations.ResumeReenters := by
  intro s p n ht hon e
  have hx := State.command_taken (c := .resume p n) (rule := State.resumeSource n) ht
    ((State.refusal_none s .onlineOnly p).mpr hon)
  rw [← exec_resume] at hx
  refine ⟨fun hst => ?_, fun hst => ?_⟩
  · have hr : s.resumeSource n = (s, .invalid) := if_neg hst
    rw [hr] at hx
    exact ⟨_, hx, State.onlyResult_setResult p .invalid⟩
  · have hr : s.resumeSource n = (((s.setSource n (s.source n).resumed).enterFront [n]).updateAttention, .ok) := if_pos hst
    rw [hr] at hx
    have hin : EntersFront s ((s.setSource n (s.source n).resumed).enterFront [n]) n (s.source n).resumed [] :=
      (State.staysOut_setSource _).enterFront
    exact ⟨_, hx,
      (((OffBooks.setSource n _).trans (OffBooks.enterFront [n])).trans OffBooks.updateAttention).setResult p .ok,
      hin.congr (SameBooks.commandEnd p .ok), portBecomes_commandEnd (fun q => by simp) .ok, attnOk_commandEnd p .ok⟩

/-! ### A qualifying edge -/

theorem setLevel_getLsbD (v : Levels) (l k : LineId) (level : Bool) :
    (setLevel v l level).getLsbD k.val = if k = l then level else v.getLsbD k.val := by
  unfold setLevel
  by_cases hk : k = l
  · cases level <;> simp [hk]
  · have hval : k.val ≠ l.val := fun h => hk (Fin.ext h)
    cases level <;> simp [hk, hval]

/-- Settles O39: the sample is written first, and Table 2-3 then judges the state of the source. -/
theorem qualifyingEdgeByState : Obligations.QualifyingEdgeByState := by
  intro s l n level d hn hawake hchange hen hd hq e
  have hsrc : lineSource l = n := Fin.ext hn.symm
  have hqual : d.qualifies level = true := by
    rcases hq with ⟨rfl, rfl⟩ | ⟨rfl, rfl⟩ | rfl <;> rfl
  have hjudge : (s.sampleLine l level).judgeChange n level = (s.sampleLine l level).qualifyingEdge n := by
    have hen' : ((s.sampleLine l level).source n).route.enable = true := hen
    have hd' : ((s.sampleLine l level).source n).route.detection = some d := hd
    simp only [State.judgeChange, hen', hd', hqual, if_true]
  have hx : exec (.lineChange l level) s = .next ((s.sampleLine l level).qualifyingEdge n).updateAttention := by
    rw [exec_lineChange, hsrc, hjudge, hawake, if_neg (by simp), if_neg hchange]
  have hstay : StaysOut s (s.sampleLine l level) n e [] := ⟨rfl, ⟨rfl, fun _ _ => rfl⟩, ⟨rfl, rfl⟩⟩
  have hoff : OffBooks (s.sampleLine l level) ((s.sampleLine l level).qualifyingEdge n) := by
    unfold State.qualifyingEdge
    split
    · exact OffBooks.latch n
    · exact OffBooks.setSource n _
  have hfold : e.state ≠ .idle → (s.sampleLine l level).qualifyingEdge n = (s.sampleLine l level).setSource n e.foldEvent :=
    fun hne => if_neg hne
  have hframe := hoff.trans OffBooks.updateAttention
  have hcur := congrArg State.currentSample hframe
  have hprev := congrArg State.previousSample hframe
  refine ⟨_, hx, ?_, fun k => ?_, fun k => ?_, fun hst => ?_, fun hst => ?_, fun ⟨hst, ha⟩ => ?_, attnOk_updateAttention⟩
  · rw [hcur, hprev]
    exact hframe
  · rw [hcur]
    exact setLevel_getLsbD _ _ _ _
  · rw [hprev]
    refine (setLevel_getLsbD _ _ _ _).trans ?_
    split
    · rename_i hk; rw [hk]
    · rfl
  · have hr : (s.sampleLine l level).qualifyingEdge n = (s.sampleLine l level).latch n := if_pos hst
    rw [hr]
    exact hstay.latch.congr SameBooks.updateAttention
  · rw [hfold (by rcases hst with (h | h | h | h) | ⟨h | h, -⟩ <;> simp [h]), SourceEntry.foldEvent_folds hst]
    exact ⟨satAdd e.fold 1, rfl, (hstay.setSource _).congr SameBooks.updateAttention⟩
  · rw [hfold (by rcases hst with h | h <;> simp [h]), SourceEntry.foldEvent_again hst ha]
    exact (hstay.setSource _).congr SameBooks.updateAttention

end Sys2Proof.Machine
end

section
namespace Sys2Proof.Machine

variable {s t : State}

/-! ### The end of a service, as the statements say it -/

theorem State.closeService_offBooks (n : SourceId) (addr : Option Word) (rs : List FaultRecord) :
    OffBooks { s with service := none } (s.closeService n addr rs) :=
  (OffBooks.setSource n _).trans (OffBooks.foldl_handRecord rs)

theorem State.foldl_handRecord_backlog (rs : List FaultRecord) : (rs.foldl State.handRecord s).backlog = s.backlog := by
  induction rs generalizing s with
  | nil => rfl
  | cons r rs ih => rw [List.foldl_cons, ih, State.handRecord_backlog]

/-- The part of the end of a service that every end has in common (R142). -/
theorem State.staysOut_closeService (n : SourceId) (addr : Option Word) (rs : List FaultRecord) :
    StaysOut s (s.closeService n addr rs) n ((s.source n).withDescAddr addr) rs where
  backlog := State.foldl_handRecord_backlog rs
  source := ⟨State.source_closeService n addr rs, fun m hm => by
    rw [State.closeService, State.foldl_handRecord_source, State.source_setSource_ne _ n m _ hm]
    rfl⟩
  records := by
    obtain ⟨hf, hd⟩ := State.foldl_handRecord_congr (s := s)
      (t := ({ s with service := none } : State).setSource n ((s.source n).withDescAddr addr)) rs rfl rfl
    exact ⟨hf, hd⟩

theorem State.endService_offBooks (n : SourceId) (addr : Option Word) (rs : List FaultRecord) (flag : Option EngineFlag) :
    OffBooks { s with service := none } (s.endService n addr rs flag) := by
  have hclose := State.closeService_offBooks (s := s) n addr rs
  cases flag with
  | none => exact hclose.trans (OffBooks.endOccurrence n)
  | some f =>
    rw [State.endService_flag]
    split
    · exact (hclose.trans (OffBooks.setSource n _)).trans (OffBooks.enterBack n)
    · exact hclose.trans (OffBooks.setSource n _)

/-- What the end of the service in flight leaves (R142). -/
theorem State.serviceEnds_endService (v : Service) (addr : Option Word) (rs : List FaultRecord)
    (flag : Option EngineFlag) : ServiceEnds s (s.endService v.src addr rs flag).updateAttention v addr rs flag where
  frame := (State.endService_offBooks v.src addr rs flag).trans OffBooks.updateAttention
  handedOn f hf hen := by
    have hout := State.staysOut_closeService (s := s) v.src addr rs
    subst hf
    rw [State.endService_flag, if_pos hen]
    refine Enters.congr ?_ SameBooks.updateAttention
    cases f <;> exact (hout.setSource _).enterBack
  discarded hne hen := by
    have hout := State.staysOut_closeService (s := s) v.src addr rs
    obtain ⟨f, rfl⟩ := Option.ne_none_iff_exists'.mp hne
    rw [State.endService_flag, if_neg (by simp [hen])]
    exact (hout.setSource _).congr SameBooks.updateAttention
  ended hnone := by
    subst hnone
    have hsample : (s.closeService v.src addr rs).currentSample = s.currentSample :=
      by
      rw [State.closeService_offBooks v.src addr rs]
    exact ((State.staysOut_closeService v.src addr rs).endOccurrence hsample).congr SameBooks.updateAttention
  attention := attnOk_updateAttention

theorem State.serviceGoesOn_setPhase (v : Service) (ph : Phase) :
    ServiceGoesOn s (s.setPhase v ph).updateAttention v ph := ⟨rfl, attnOk_updateAttention⟩

/-! ### FETCH -/

/-- A valid descriptor starts MOVE at the source address that was read (R137). -/
theorem checkDescriptor_ok_src {c x y d : Word} {w : Work} (h : checkDescriptor c x y d = .ok w) : w.src = x := by
  unfold checkDescriptor at h
  repeat' split at h
  all_goals cases h
  rfl

theorem State.memoryPort_setPhase (v : Service) (ph : Phase) :
    (s.setPhase v ph).updateAttention.memoryPort = some { v with phase := ph }.cycle := rfl

section Fetch
variable {v : Service} {c x y d : Word}

theorem State.fetchAnswer_fetch0 (hv : s.service = some v) (hph : v.phase = .fetch0) :
    s.fetchAnswer (.completed d) = s.setPhase v (.fetch1 d) := by
  simp only [State.fetchAnswer, hv, hph]

theorem State.fetchAnswer_fetch1 (hv : s.service = some v) (hph : v.phase = .fetch1 c) :
    s.fetchAnswer (.completed d) = s.setPhase v (.fetch2 c d) := by
  simp only [State.fetchAnswer, hv, hph]

theorem State.fetchAnswer_fetch2 (hv : s.service = some v) (hph : v.phase = .fetch2 c x) :
    s.fetchAnswer (.completed d) = s.setPhase v (.fetch3 c x d) := by
  simp only [State.fetchAnswer, hv, hph]

theorem State.fetchAnswer_aborted (hv : s.service = some v) (hph : v.phase = .fetch3 c x y) (ha : v.abort = true) :
    s.fetchAnswer (.completed d) = s.endService v.src (some v.descAddr) [] (some .aborted) := by
  simp only [State.fetchAnswer, hv, hph, State.fetchDone, ha, if_true]

theorem State.fetchAnswer_valid (hv : s.service = some v) (hph : v.phase = .fetch3 c x y) (ha : v.abort = false)
    {w : Work} (hw : checkDescriptor c x y d = .ok w) : s.fetchAnswer (.completed d) = s.setPhase v (.moveRead w) := by
  simp [State.fetchAnswer, hv, hph, State.fetchDone, ha, hw]

theorem State.fetchAnswer_invalid (hv : s.service = some v) (hph : v.phase = .fetch3 c x y) (ha : v.abort = false)
    {why : BadDescriptor} (hw : checkDescriptor c x y d = .error why) : s.fetchAnswer (.completed d) =
      s.endService v.src none [s.engineRecord v v.descAddr (.descriptorInvalid why)] (some .fault) := by
  simp [State.fetchAnswer, hv, hph, State.fetchDone, ha, hw]

/-- A read of FETCH answered with error: the record names the word that was read (R143). -/
theorem State.fetchAnswer_error (hv : s.service = some v) {i : Word}
    (hph : (v.phase = .fetch0 ∧ i = 0) ∨ (v.phase = .fetch1 c ∧ i = 4) ∨ (v.phase = .fetch2 c x ∧ i = 8) ∨
      (v.phase = .fetch3 c x y ∧ i = 12)) : s.fetchAnswer .error =
      s.endService v.src none [s.engineRecord v (v.descAddr + i) (.engineBusError .fetch)] (some .fault) := by
  rcases hph with ⟨hph, rfl⟩ | ⟨hph, rfl⟩ | ⟨hph, rfl⟩ | ⟨hph, rfl⟩ <;>
    simp [State.fetchAnswer, hv, hph, State.fetchError, State.busErrorRecord, Service.cycle]

end Fetch

/-- Settles O45, by the phase that the answer finds. -/
theorem fetchAnswers : Obligations.FetchAnswers := by
  intro s v c x y d hv record
  have hgo (ph : Phase) (ht : s.fetchAnswer (.completed d) = s.setPhase v ph) :
      ∃ t, exec (.fetchAnswer (.completed d)) s = .next t ∧ ServiceGoesOn s t v ph ∧
        t.memoryPort = some { v with phase := ph }.cycle :=
    ⟨_, exec_fetchAnswer s _, ht ▸ State.serviceGoesOn_setPhase v ph, ht ▸ State.memoryPort_setPhase v ph⟩
  have hend (a : ReadAnswer) (addr : Option Word) (rs : List FaultRecord) (f : EngineFlag)
      (ht : s.fetchAnswer a = s.endService v.src addr rs (some f)) :
      ∃ t, exec (.fetchAnswer a) s = .next t ∧ ServiceEnds s t v addr rs (some f) :=
    ⟨_, exec_fetchAnswer s _, ht ▸ State.serviceEnds_endService v addr rs (some f)⟩
  refine ⟨fun hph => hgo _ (State.fetchAnswer_fetch0 hv hph), fun hph => hgo _ (State.fetchAnswer_fetch1 hv hph),
    fun hph => hgo _ (State.fetchAnswer_fetch2 hv hph), fun hph ha w hw => ?_,
    fun hph ha => hend _ _ _ _ (State.fetchAnswer_aborted hv hph ha),
    fun hph ha why hw => hend _ _ _ _ (State.fetchAnswer_invalid hv hph ha hw),
    fun i hph => hend _ _ _ _ (State.fetchAnswer_error hv hph)⟩
  rw [← checkDescriptor_ok_src hw]
  exact hgo _ (State.fetchAnswer_valid hv hph ha hw)

/-! ### WRITEBACK -/

section Writeback
variable {v : Service} {w : Work} {k : Fin 3}

/-- The writeback writes three words in order (R139). -/
theorem Service.cycle_writeback (hph : v.phase = .writeback w k) :
    v.cycle = ⟨true, v.descAddr + BitVec.ofNat 32 (4 * k.val), 4,
      if k = 0 then w.controlOut else if k = 1 then w.src else w.dst⟩ := by
  unfold Service.cycle
  rw [hph]
  match k with
  | 0 => simp
  | 1 => rfl
  | 2 => rfl

theorem State.writebackAnswer_goesOn (hv : s.service = some v) (hph : v.phase = .writeback w k) (hk : k ≠ 2) :
    s.writebackAnswer .completed = s.setPhase v (.writeback w (k + 1)) := by
  simp only [State.writebackAnswer, hv, hph]
  match k with
  | 0 => rfl
  | 1 => rfl
  | 2 => exact absurd rfl hk

theorem State.writebackAnswer_ends (hv : s.service = some v) (hph : v.phase = .writeback w 2) :
    s.writebackAnswer .completed = s.endWriteback v w := by
  simp only [State.writebackAnswer, hv, hph]

theorem State.writebackAnswer_error (hv : s.service = some v) (hph : v.phase = .writeback w k) :
    s.writebackAnswer .error =
      s.endService v.src none [s.busErrorRecord v .writeback] (some .fault) := by
  simp only [State.writebackAnswer, hv, hph]

/-- The policy hands the occurrence on in these cases (R141). -/
theorem Work.handsOn_iff : w.handsOn = true ↔
    w.policy = .burst ∨ (w.policy = .descriptor ∧ w.count = 0) ∨
      (w.policy = .chain ∧ w.count = 0 ∧ w.link = none) := by
  unfold Work.handsOn
  cases w.policy <;> simp

/-- … and ends it in these (R141). -/
theorem Work.handsOn_eq_false (h : (w.policy = .descriptor ∧ w.count ≠ 0) ∨
    (w.policy = .chain ∧ (w.count ≠ 0 ∨ w.link ≠ none))) : w.handsOn = false := by
  refine Bool.eq_false_iff.mpr fun hon => ?_
  rcases h with ⟨hp, hc⟩ | ⟨hp, hc⟩ <;> simp [Work.handsOn_iff, hp] at hon
  · exact hc hon
  · exact hc.elim (· hon.1) (· hon.2)

end Writeback

/-- Settles O50, by the word whose answer comes. -/
theorem writebackEndsService : Obligations.WritebackEndsService := by
  intro s v w k hv hph control address after
  have hcycle := Service.cycle_writeback hph
  refine ⟨?_, fun hk => ?_, fun hk => ?_, ?_⟩
  · rw [State.memoryPort, hv, Option.map_some, hcycle]
    rfl
  · exact ⟨_, exec_writebackAnswer s _,
      State.writebackAnswer_goesOn hv hph hk ▸ State.serviceGoesOn_setPhase v (.writeback w (k + 1))⟩
  · subst hk
    have hend (addr : Option Word) (flag : Option EngineFlag) (ht : s.endWriteback v w = s.endService v.src addr [] flag) :
        ServiceEnds s (s.writebackAnswer .completed).updateAttention v addr [] flag :=
      State.writebackAnswer_ends hv hph ▸ ht ▸ State.serviceEnds_endService v addr [] flag
    refine ⟨_, exec_writebackAnswer s _, fun hm => hend _ _ ?_, fun hm ha => hend _ _ ?_,
      fun hm ha => ⟨fun hon => hend _ _ ?_, fun hoff => hend _ _ ?_⟩⟩
    · simp [State.endWriteback, hm]
    · simp [State.endWriteback, hm, ha, addressAfter, after]
    · simp [State.endWriteback, hm, ha, addressAfter, after, Work.handsOn_iff.mpr hon]
    · simp [State.endWriteback, hm, ha, addressAfter, after, Work.handsOn_eq_false hoff]
  · refine ⟨_, exec_writebackAnswer s _, ?_⟩
    rw [State.writebackAnswer_error hv hph, State.busErrorRecord, hcycle]
    exact State.serviceEnds_endService v none _ (some .fault)

end Sys2Proof.Machine
end

section
namespace Sys2Proof.Machine

variable {s t u : State}

/-! ### The release of RESET, source by source -/

/-- The source latches at the release of RESET (R27, R33). -/
def State.latchesAtRelease (s : State) (n : SourceId) : Bool :=
  (s.source n).route.enable && (s.source n).state == .idle && s.levelActive n

theorem State.latchAtRelease_eq (n : SourceId) :
    s.latchAtRelease n = if s.latchesAtRelease n then s.latch n else s := rfl

/-- The sources `ns` have been gone through in this order, each that latches joining the back of its band. -/
structure ReleaseLatched (s t : State) (ns : List SourceId) : Prop where
  frame   : OffBooks s t
  source  : ∀ m, t.source m = if m ∈ ns ∧ s.latchesAtRelease m = true then
              { newOccurrence (s.source m) with unserved := unservedDue s (newOccurrence (s.source m)) } else s.source m
  backlog : t.backlog = (ns.filter s.latchesAtRelease).foldl
              (fun b n => insertBack BacklogEntry.cls ⟨n, (s.source n).route.cls⟩ b) s.backlog
  records : RecordsHanded s t
              ((ns.filter fun n => s.latchesAtRelease n && unservedDue s (newOccurrence (s.source n))).map fun n =>
                unservedRecord n (newOccurrence (s.source n)))

theorem OffBooks.unservedDue (h : OffBooks s t) (e : SourceEntry) : unservedDue t e = unservedDue s e := by
  simp only [Machine.unservedDue, State.online, h.port]

/-- What the release of RESET asks of a source depends on its own entry and line. -/
theorem OffBooks.latchesAtRelease (h : OffBooks s t) {n : SourceId} (hn : t.source n = s.source n) :
    t.latchesAtRelease n = s.latchesAtRelease n := by
  have hsample : t.currentSample = s.currentSample := by rw [h]
  simp only [State.latchesAtRelease, State.levelActive_eq, hn, lineActive_congr hsample]

/-- One source at the release of RESET. -/
theorem State.releaseLatched_one (n : SourceId) : ReleaseLatched s (s.latchAtRelease n) [n] := by
  rw [State.latchAtRelease_eq]
  by_cases hl : s.latchesAtRelease n = true
  · have henters : EntersBack s (s.latch n) n (newOccurrence (s.source n)) [] := StaysOut.rfl_source.latch
    have hdue := (OffBooks.latch (s := s) n).unservedDue (newOccurrence (s.source n))
    have hrec := henters.records
    rw [hdue, List.nil_append] at hrec
    rw [if_pos hl]
    refine ⟨OffBooks.latch n, fun m => ?_, ?_, ?_⟩
    · by_cases hm : m = n
      · subst hm
        rw [henters.source.source, hdue, if_pos ⟨List.mem_singleton_self m, hl⟩]
        rfl
      · rw [henters.source.others m hm, if_neg (fun h => hm (List.mem_singleton.mp h.1))]
    · rw [henters.backlog, List.filter_singleton, hl]
      rfl
    · simp only [List.filter_singleton, hl, Bool.true_and]
      cases hd : unservedDue s (newOccurrence (s.source n)) <;> rw [hd] at hrec <;> exact hrec
  · rw [if_neg hl]
    refine ⟨OffBooks.refl, fun m => ?_, ?_, ?_⟩
    · rw [if_neg]
      rintro ⟨hm, hl'⟩
      exact hl (List.mem_singleton.mp hm ▸ hl')
    · rw [List.filter_singleton, Bool.eq_false_iff.mpr hl]
      rfl
    · rw [List.filter_singleton, Bool.eq_false_iff.mpr hl]
      exact RecordsHanded.refl rfl rfl

/-- Two lists of sources one after the other, no source in both. -/
theorem ReleaseLatched.append {ns ms : List SourceId} (h : ReleaseLatched s t ns) (h' : ReleaseLatched t u ms)
    (hdisj : ∀ m ∈ ms, m ∉ ns) : ReleaseLatched s u (ns ++ ms) := by
  have hsrc : ∀ m ∈ ms, t.source m = s.source m := fun m hm => by
    rw [h.source m, if_neg fun hin => hdisj m hm hin.1]
  have hlatches : ∀ m ∈ ms, t.latchesAtRelease m = s.latchesAtRelease m := fun m hm =>
    h.frame.latchesAtRelease (hsrc m hm)
  refine ⟨h.frame.trans h'.frame, fun m => ?_, ?_, ?_⟩
  · by_cases hm : m ∈ ms
    · rw [h'.source m, hlatches m hm, hsrc m hm, h.frame.unservedDue]
      simp [hm]
    · rw [h'.source m, if_neg (fun hin => hm hin.1), h.source m]
      simp [hm]
  · rw [h'.backlog, h.backlog, List.filter_append, List.foldl_append, List.filter_congr hlatches]
    refine List.foldl_ext _ _ _ fun b m hm => ?_
    rw [hsrc m (List.mem_of_mem_filter hm)]
  · rw [List.filter_append, List.map_append]
    refine h.records.append ?_
    have hfilter : (ms.filter fun n => t.latchesAtRelease n && unservedDue t (newOccurrence (t.source n))) =
        ms.filter fun n => s.latchesAtRelease n && unservedDue s (newOccurrence (s.source n)) :=
      List.filter_congr fun m hm => by rw [hlatches m hm, hsrc m hm, h.frame.unservedDue]
    have hmap : ((ms.filter fun n => s.latchesAtRelease n && unservedDue s (newOccurrence (s.source n))).map fun n =>
          unservedRecord n (newOccurrence (t.source n))) =
        (ms.filter fun n => s.latchesAtRelease n && unservedDue s (newOccurrence (s.source n))).map fun n =>
          unservedRecord n (newOccurrence (s.source n)) :=
      List.map_congr_left fun m hm => by rw [hsrc m (List.mem_of_mem_filter hm)]
    have hrec := h'.records
    rw [hfilter, hmap] at hrec
    exact hrec

theorem State.releaseLatched_foldl {ns : List SourceId} (hnd : ns.Nodup) :
    ReleaseLatched s (ns.foldl State.latchAtRelease s) ns := by
  induction ns generalizing s with
  | nil => exact ⟨OffBooks.refl, fun m => by simp, rfl, RecordsHanded.refl rfl rfl⟩
  | cons n ns ih =>
    obtain ⟨hn, hnd⟩ := List.nodup_cons.mp hnd
    exact (State.releaseLatched_one n).append (ih hnd) fun m hm hin => hn (List.mem_singleton.mp hin ▸ hm)

/-! ### The release of RESET, whole -/

/-- The part at the release of RESET, before any source latches. -/
def State.released (s : State) (levels : Levels) : State :=
  State.letThrough { s with currentSample := levels, previousSample := levels, prescale := 0, resetNote := none }

theorem State.releaseReset_eq (note : ResetNote) (levels : Levels) : s.releaseReset note levels =
    (lineSources.foldl State.latchAtRelease ((s.released levels).handRecord (partResetRecord note))).updateAttention := rfl

theorem lineSources_nodup : lineSources.Nodup := (List.nodup_finRange 64).filter _

/-- Only a line source stands at an active level. -/
theorem mem_lineSources_of_latches {n : SourceId} (h : s.latchesAtRelease n = true) : n ∈ lineSources := by
  simp only [State.latchesAtRelease, State.levelActive_eq, lineActive, Bool.and_eq_true] at h
  exact List.mem_filter.mpr ⟨List.mem_finRange n, h.2.1⟩

theorem filter_lineSources (q : SourceId → Bool) : (lineSources.filter fun n => s.latchesAtRelease n && q n) =
    (List.finRange 64).filter fun n => s.latchesAtRelease n && q n := by
  unfold lineSources
  rw [List.filter_filter]
  refine List.filter_congr fun n _ => ?_
  cases hl : s.latchesAtRelease n with
  | false => simp
  | true =>
    have hline : isPosted n = false := by simpa using (List.mem_filter.mp (mem_lineSources_of_latches hl)).2
    simp [hline]

/-- A new occurrence with no port ONLINE is unserved exactly when its source is unarmed (R53, R63). -/
theorem unservedDue_newOccurrence (h : ∀ p, s.online p = false) (e : SourceEntry) :
    unservedDue s (newOccurrence e) = !e.route.descAddr.isSome := by
  simp [unservedDue, newOccurrence, h]

theorem RecordsHanded.congr_left {rs : List FaultRecord} (h : RecordsHanded s t rs) (hf : u.faults = s.faults)
    (hd : u.dropped = s.dropped) : RecordsHanded u t rs := by
  obtain ⟨hf', hd'⟩ := State.foldl_handRecord_congr rs hf hd
  exact ⟨h.faults.trans hf'.symm, h.dropped.trans hd'.symm⟩

/-- Settles O37. -/
theorem resetReleaseLatchesLevels : Obligations.ResetReleaseLatchesLevels := by
  intro s levels note hnote hback honline hsrc latching armed waits
  let u := (s.released levels).handRecord (partResetRecord note)
  have hstart : OffBooks (s.released levels) u := OffBooks.handRecord _
  have husrc : ∀ n, u.source n = s.source n := fun n => State.handRecord_source _ _ _
  have hlatch : ∀ n, u.latchesAtRelease n = latching n := fun n => by
    have hsample : u.currentSample = levels := by rw [hstart]; rfl
    have hline : u.levelActive n = lineActive { s with currentSample := levels } n (s.source n) := by
      rw [State.levelActive_eq, husrc, lineActive_congr (s := { s with currentSample := levels }) hsample]
    simp only [State.latchesAtRelease, husrc, hline, (hsrc n).1, latching]
    cases (s.source n).route.enable <;> simp
  have hdue : ∀ e, unservedDue u (newOccurrence e) = !e.route.descAddr.isSome :=
    unservedDue_newOccurrence fun p => by
      rw [State.online, hstart.port]
      exact honline p
  have hdone := State.releaseLatched_foldl (s := u) lineSources_nodup
  have hend := SameBooks.updateAttention (s := lineSources.foldl State.latchAtRelease u)
  refine ⟨(lineSources.foldl State.latchAtRelease u).updateAttention, ?_, ?_, fun n => ?_, ?_, ?_, attnOk_updateAttention⟩
  · rw [exec_resetRelease, execResetRelease, hnote]
    exact congrArg Host.Outcome.next (State.releaseReset_eq note levels)
  · exact (hstart.trans hdone.frame).trans OffBooks.updateAttention
  · rw [hend.source, hdone.source, hlatch, husrc, hdue]
    by_cases hl : latching n = true
    · rw [if_pos ⟨mem_lineSources_of_latches ((hlatch n).trans hl), hl⟩, if_pos hl]
    · rw [if_neg fun h => hl h.2, if_neg hl]
  · have hfilter : lineSources.filter latching = (List.finRange 64).filter latching := by
      simpa only [Bool.and_true, hlatch] using filter_lineSources (s := u) fun _ => true
    have hempty : u.backlog = [] := (State.handRecord_backlog _ _).trans hback
    rw [hend.backlog, hdone.backlog, hempty, funext hlatch, hfilter]
    simp only [husrc]
  · have hrec := (RecordsHanded.congr_left (u := s) (recordsHanded_foldl (s := s.released levels) [partResetRecord note])
      rfl rfl).append (hdone.records.congr hend)
    have hfilter := filter_lineSources (s := u) fun n => !armed n
    simp only [hlatch, hdue, husrc] at hrec hfilter
    rw [hfilter] at hrec
    exact hrec

end Sys2Proof.Machine
end

section
namespace Sys2Proof.Machine

variable {s t u : State} {n m : SourceId}

/-! ### What keeps the tag and the route record of a source -/

/-- Source `n` has the same tag and the same route record in both states. -/
structure Keeps (s t : State) (n : SourceId) : Prop where
  tag   : (t.source n).tag = (s.source n).tag
  route : (t.source n).route = (s.source n).route

namespace Keeps

theorem of_source (h : t.source n = s.source n) : Keeps s t n := ⟨by rw [h], by rw [h]⟩

theorem refl : Keeps s s n := of_source rfl

/-- The entry of the source is another with the same tag and route record. -/
theorem of_entry {e : SourceEntry} (h : t.source n = e) (htag : e.tag = (s.source n).tag)
    (hroute : e.route = (s.source n).route) : Keeps s t n := ⟨h ▸ htag, h ▸ hroute⟩

theorem trans (h : Keeps s t n) (h' : Keeps t u n) : Keeps s u n := ⟨h'.tag.trans h.tag, h'.route.trans h.route⟩

/-- An entry written with the tag and the route record that its source has in `s`. -/
theorem setSource (h : Keeps s t n) (m : SourceId) (e : SourceEntry) (htag : e.tag = (s.source m).tag)
    (hroute : e.route = (s.source m).route) : Keeps s (t.setSource m e) n := by
  by_cases hm : n = m
  · subst hm
    exact of_entry (State.source_setSource_self t n e) htag hroute
  · exact h.trans (of_source (State.source_setSource_ne t m n e hm))

/-- Another source's entry is written. -/
theorem setSource_ne (h : Keeps s t n) (hm : n ≠ m) (e : SourceEntry) : Keeps s (t.setSource m e) n :=
  h.trans (of_source (State.source_setSource_ne t m n e hm))

/-- An entry edited in place. -/
theorem modSource (h : Keeps s t n) (m : SourceId) (f : SourceEntry → SourceEntry)
    (hf : ∀ e, (f e).tag = e.tag ∧ (f e).route = e.route) : Keeps s (t.modSource m f) n :=
  h.trans (refl.setSource m (f (t.source m)) (hf _).1 (hf _).2)

/-- What else differs is not the source table. -/
theorem of_sources (h : Keeps s t n) (hu : u.sources = t.sources) : Keeps s u n :=
  h.trans (of_source (by simp only [State.source, hu]))

theorem updateAttention (h : Keeps s t n) : Keeps s t.updateAttention n := h.trans (of_source rfl)

theorem setResult (h : Keeps s t n) (p : Port) (c : Result) : Keeps s (t.setResult p c) n := h.trans (of_source rfl)

theorem handRecord (h : Keeps s t n) (r : FaultRecord) : Keeps s (t.handRecord r) n :=
  h.trans (of_source (State.handRecord_source t r n))

theorem unservedCheck (h : Keeps s t n) (m : SourceId) : Keeps s (t.unservedCheck m) n := by
  refine h.trans (of_entry (State.source_unservedCheck t m n) ?_ ?_) <;> split <;> rename_i hm <;> simp [hm]

theorem foldl_unservedCheck (h : Keeps s t n) (ms : List SourceId) : Keeps s (ms.foldl State.unservedCheck t) n := by
  induction ms generalizing t with
  | nil => exact h
  | cons m ms ih => exact ih (h.unservedCheck m)

theorem withBacklog (h : Keeps s t n) (b : List BacklogEntry) : Keeps s { t with backlog := b } n :=
  ⟨h.tag, h.route⟩

theorem enterBack (h : Keeps s t n) (m : SourceId) : Keeps s (t.enterBack m) n := (h.withBacklog _).unservedCheck m

theorem enterFront (h : Keeps s t n) (ms : List SourceId) : Keeps s (t.enterFront ms) n :=
  (h.withBacklog _).foldl_unservedCheck ms

theorem latch (h : Keeps s t n) (m : SourceId) : Keeps s (t.latch m) n :=
  h.trans ((refl.setSource m (t.source m).fresh rfl rfl).enterBack m)

theorem endOccurrence (h : Keeps s t n) (m : SourceId) : Keeps s (t.endOccurrence m) n := by
  refine h.trans ?_
  rcases t.endOccurrence_cases m with ⟨-, heq⟩ | ⟨-, -, heq⟩ | ⟨-, -, -, heq⟩ | ⟨-, -, -, -, heq⟩ <;> rw [heq]
  · exact refl.setSource m (t.source m).toDisabled rfl rfl
  · exact (refl.setSource m { (t.source m).fresh with fold := (t.source m).fold } rfl rfl).enterBack m
  · exact refl.latch m
  · exact refl.setSource m (t.source m).toIdle rfl rfl

theorem latchAtRelease (h : Keeps s t n) (m : SourceId) : Keeps s (t.latchAtRelease m) n := by
  rw [State.latchAtRelease_eq]
  split
  · exact h.latch m
  · exact h

theorem foldl_latchAtRelease (h : Keeps s t n) (ms : List SourceId) : Keeps s (ms.foldl State.latchAtRelease t) n := by
  induction ms generalizing t with
  | nil => exact h
  | cons m ms ih => exact ih (h.latchAtRelease m)

theorem removeClaim (h : Keeps s t n) (m : SourceId) (p : Port) : Keeps s (t.removeClaim m p) n :=
  h.trans (of_source (State.removeClaim_source t m p n))

/-- An access whose taking keeps them. -/
theorem orHold {c : Instr} {p : Port} {take : State → State} (h : Keeps s (take s) n)
    (hx : s.orHold c p take = .next t) : Keeps s t n := by
  unfold State.orHold at hx
  split at hx <;> cases hx
  · exact of_source rfl
  · exact h

/-- A command whose rule keeps them. -/
theorem command {c : Instr} {p : Port} {a : Admission} {rule : State → State × Result} (h : Keeps s (rule s).1 n)
    (hx : s.command c p a rule = .next t) : Keeps s t n := by
  rcases State.command_cases s c p a rule with ⟨-, heq⟩ | ⟨-, code, -, heq⟩ | ⟨-, -, heq⟩ <;> rw [heq] at hx <;> cases hx
  · exact of_source rfl
  · exact of_source rfl
  · exact h.setResult p _

end Keeps

/-! #### Lines, timers and resets -/

theorem State.keeps_judgeChange (m : SourceId) (level : Bool) : Keeps s (s.judgeChange m level) n := by
  have hedge : Keeps s (s.qualifyingEdge m) n := by
    unfold State.qualifyingEdge
    split
    · exact Keeps.refl.latch m
    · refine Keeps.refl.modSource m SourceEntry.foldEvent fun e => ?_
      rcases e.foldEvent_cases with ⟨-, he⟩ | ⟨-, he | he⟩ <;> rw [he] <;> exact ⟨rfl, rfl⟩
  have hlevel : Keeps s (s.activation m) n := by
    unfold State.activation
    split
    · exact Keeps.refl.latch m
    · exact Keeps.of_source rfl
  unfold State.judgeChange
  split
  case isFalse => exact Keeps.of_source rfl
  split
  case h_2 => exact Keeps.of_source rfl
  split
  · exact hedge
  split
  · exact hlevel
  · exact Keeps.of_source rfl

theorem State.keeps_expire (m : SourceId) (c : Claim) : Keeps s (s.expire m c) n := by
  have hgone := (Keeps.refl (s := s) (n := n)).removeClaim m c.port
  have hexp := (hgone.setSource m ((s.source m).expired c) rfl rfl).handRecord
    (claimExpiredRecord m c ((s.source m).expired c).revocations (!((s.source m).expired c).route.enable))
  unfold State.expire
  dsimp only
  split
  · exact hexp.setSource m ((s.source m).expired c).toDisabled rfl rfl
  split
  · exact (hexp.setSource m { (s.source m).expired c with state := .suspended } rfl rfl).handRecord _
  · exact (hexp.setSource m (((s.source m).expired c).reenter (some c.port)) rfl rfl).enterFront [m]

theorem State.keeps_assertReset : Keeps s s.assertReset n := by
  refine Keeps.of_entry (State.source_assertReset n) ?_ ?_ <;> unfold SourceEntry.partReset <;> split <;> rfl

theorem State.keeps_clearPort (p : Port) : Keeps s (s.clearPort p) n := by
  have hsrc := State.source_clearPort (s := s) p n
  cases hc : s.claimOf n with
  | none =>
    rw [State.entryAtPortReset_unclaimed hc] at hsrc
    refine Keeps.of_entry hsrc ?_ ?_ <;> split <;> rfl
  | some c =>
    rw [State.entryAtPortReset_claimed hc] at hsrc
    split at hsrc
    · refine Keeps.of_entry hsrc ?_ ?_ <;> split <;> rfl
    · exact Keeps.of_source hsrc

theorem State.keeps_resetPort (p : Port) : Keeps s (s.resetPort p) n := by
  have hclear := State.keeps_clearPort (s := s) (n := n) p
  unfold State.resetPort
  refine Keeps.updateAttention (Keeps.enterFront ?_ _)
  split
  · exact hclear
  · exact hclear.handRecord _

theorem State.keeps_assertPortReset (p : Port) : Keeps s (s.assertPortReset p) n := by
  unfold State.assertPortReset
  split
  · exact Keeps.of_source rfl
  split
  · exact Keeps.of_source rfl
  · exact Keeps.trans (t := s.setPortReset p true) (Keeps.of_source rfl) (State.keeps_resetPort p)

/-! #### The engine, but for the end of a service -/

theorem State.keeps_startService : Keeps s s.startService n := by
  unfold State.startService
  split
  case h_2 => exact Keeps.of_source rfl
  rename_i m _ _ _ _
  split
  · exact (Keeps.refl.setSource m { s.source m with state := .engineActive } rfl rfl).of_sources rfl
  · exact Keeps.of_source rfl

theorem State.keeps_moveError (v : Service) (w : Work) (ph : BusPhase) : Keeps s (s.moveError v w ph) n :=
  (Keeps.refl.handRecord (s.busErrorRecord v ph)).of_sources rfl

theorem State.keeps_unitReadAnswer (a : ReadAnswer) : Keeps s (s.unitReadAnswer a) n := by
  unfold State.unitReadAnswer
  split
  · exact Keeps.of_source rfl
  split
  case h_2 => exact Keeps.of_source rfl
  split
  · exact Keeps.of_source rfl
  · exact State.keeps_moveError _ _ _

theorem State.keeps_unitWriteAnswer (a : WriteAnswer) : Keeps s (s.unitWriteAnswer a) n := by
  unfold State.unitWriteAnswer
  split
  · exact Keeps.of_source rfl
  split
  case h_2 => exact Keeps.of_source rfl
  split
  · unfold State.unitDone
    split <;> exact Keeps.of_source rfl
  · exact State.keeps_moveError _ _ _

/-! #### Accesses -/

theorem State.keeps_leavePort (p : Port) : Keeps s (s.leavePort p).1 n := by
  unfold State.leavePort
  split
  · have hleft : Keeps s (s.withdrawPort p) n := by
      refine Keeps.of_entry (State.source_withdrawPort p n) ?_ ?_ <;> unfold State.entryAtLeave <;> split <;> rfl
    exact (hleft.enterFront _).updateAttention
  · exact Keeps.of_source rfl

theorem State.keeps_takeLease (p : Port) : Keeps s (s.takeLease p).1 n := by
  unfold State.takeLease
  split <;> exact Keeps.of_source rfl

theorem State.keeps_dropLease (p : Port) : Keeps s (s.dropLease p).1 n := by
  unfold State.dropLease
  split <;> exact Keeps.of_source rfl

theorem State.keeps_writeStaging0 (p : Port) (w : Word) : Keeps s (s.writeStaging0 p w).1 n := by
  unfold State.writeStaging0
  split <;> exact Keeps.of_source rfl

theorem State.keeps_writeFloor (p : Port) (v : BitVec 4) : Keeps s (s.writeFloor p v).1 n := by
  unfold State.writeFloor
  split <;> exact Keeps.of_source rfl

theorem State.keeps_writeDivider (v : Word) : Keeps s (s.writeDivider v).1 n := by
  unfold State.writeDivider
  split <;> exact Keeps.of_source rfl

theorem State.keeps_writeLimit (i : Fin 4) (v : Word) : Keeps s (s.writeLimit i v).1 n := by
  unfold State.writeLimit
  split <;> exact Keeps.of_source rfl

theorem State.keeps_abortService : Keeps s s.abortService.1 n := by
  unfold State.abortService
  split <;> exact Keeps.of_source rfl

theorem State.keeps_resumeSource (m : SourceId) : Keeps s (s.resumeSource m).1 n := by
  unfold State.resumeSource
  split
  · exact ((Keeps.refl.setSource m (s.source m).resumed rfl rfl).enterFront [m]).updateAttention
  · exact Keeps.of_source rfl

/-- A change of the payload queue. -/
theorem State.keeps_payloads (m : SourceId) (f : List Payload → List Payload) :
    Keeps s (s.modSource m fun e => { e with payloads := f e.payloads }) n :=
  Keeps.refl.modSource m _ fun _ => ⟨rfl, rfl⟩

theorem State.keeps_postPayload (m : SourceId) (d : Payload) : Keeps s (s.postPayload m d).1 n := by
  have hpost := State.keeps_payloads (s := s) (n := n) m (· ++ [d])
  unfold State.postPayload
  split
  · exact Keeps.of_source rfl
  split
  · exact Keeps.of_source rfl
  split
  · exact Keeps.of_source rfl
  dsimp only
  split
  · exact (hpost.latch m).updateAttention
  · exact hpost.updateAttention

theorem State.keeps_discardHead (m : SourceId) : Keeps s (s.discardHead m) n := by
  have htail := State.keeps_payloads (s := s) (n := n) m List.tail
  unfold State.discardHead
  dsimp only
  split
  · exact htail.modSource m SourceEntry.toIdle fun _ => ⟨rfl, rfl⟩
  · exact htail.latch m

theorem State.keeps_unpostSource (m : SourceId) : Keeps s (s.unpostSource m).1 n := by
  unfold State.unpostSource
  split
  · exact Keeps.of_source rfl
  split
  · exact Keeps.of_source rfl
  split
  · have hdrop : Keeps s (s.dropEntry m) n := Keeps.of_source rfl
    exact (hdrop.trans (State.keeps_discardHead m)).updateAttention
  · have hdrop : Keeps s (s.withdraw (fun _ => true) m) n := Keeps.of_source rfl
    exact (hdrop.trans (State.keeps_discardHead m)).updateAttention
  · split
    · exact Keeps.of_source rfl
    · exact State.keeps_payloads m fun _ => _
  · split
    · exact State.keeps_payloads m fun _ => _
    · exact Keeps.of_source rfl
  · exact Keeps.of_source rfl
  · exact Keeps.of_source rfl
  · exact Keeps.of_source rfl
  · exact Keeps.of_source rfl

theorem State.keeps_claimRead (p : Port) : Keeps s (s.claimRead p) n := by
  unfold State.claimRead
  split
  · exact Keeps.of_source rfl
  · exact Keeps.of_source rfl
  split
  · exact Keeps.of_source rfl
  split
  · exact Keeps.of_source rfl
  · rename_i o rest _ _
    exact (Keeps.refl.setSource o.src ((s.source o.src).claimedNow o.src) rfl rfl).of_sources rfl

theorem State.keeps_faultRead (p : Port) : Keeps s (s.faultRead p) n := by
  unfold State.faultRead
  split
  · exact Keeps.of_source rfl
  split <;> exact Keeps.of_source rfl

theorem State.keeps_matchClaim {p : Port} {m : SourceId} {tag : Tag} {rule : State → Claim → State × Result}
    (h : ∀ c, Keeps s (rule s c).1 n) : Keeps s (s.matchClaim p m tag rule).1 n := by
  unfold State.matchClaim
  split
  · exact Keeps.of_source rfl
  split
  · exact Keeps.of_source rfl
  split
  · exact Keeps.of_source rfl
  · exact h _

theorem State.keeps_completeClaim (m : SourceId) (c : Claim) : Keeps s (State.completeClaim m s c).1 n :=
  ((Keeps.refl.removeClaim m c.port).endOccurrence m).updateAttention

theorem State.keeps_giveBack (m : SourceId) (c : Claim) : Keeps s (State.giveBack m s c).1 n := by
  have hgone : Keeps s (s.removeClaim m c.port) n := Keeps.refl.removeClaim m c.port
  unfold State.giveBack
  dsimp only
  split
  · exact ((hgone.setSource m (((s.source m).restore c).reenter (some c.port)) rfl rfl).enterFront [m]).updateAttention
  · exact (hgone.setSource m (s.source m).toDisabled rfl rfl).updateAttention

theorem State.keeps_extendClaim (m : SourceId) (c : Claim) : Keeps s (State.extendClaim m s c).1 n := by
  unfold State.extendClaim
  split
  · exact Keeps.of_source rfl
  split <;> exact Keeps.of_source rfl

end Sys2Proof.Machine
end

section
namespace Sys2Proof.Machine

variable {s t : State} {n : SourceId}

/-! ### What changes the tag or the route record of a source -/

/-- The ways in which a command can leave the tag and the route record of source `n` (R2, R3, R16, R20, R24). -/
inductive RecordStep (s t : State) (n : SourceId) : Instr → Prop where
  | kept (c : Instr) (keeps : Keeps s t n) : RecordStep s t n c
  | placed (tag : (t.source n).tag = (s.source n).tag + 1) (route : (t.source n).route = (s.source n).route)
      (state : (t.source n).state = .offered) : RecordStep s t n .placement
  | powered (levels : Levels) (tag : (t.source n).tag = 0) : RecordStep s t n (.powerOn levels)
  | committed (p : Port) (tag : (t.source n).tag = (s.source n).tag) (selected : (s.port p).selected = n)
      (lease : s.lease = some p) : RecordStep s t n (.routeCommit p)
  | disabled (p : Port) (tag : (t.source n).tag = (s.source n).tag) (lease : s.lease = some p)
      (route : (t.source n).route = { (s.source n).route with enable := false }) : RecordStep s t n (.disable p n)
  | served (c : Instr) (answer : (∃ a, c = .fetchAnswer a) ∨ ∃ a, c = .writebackAnswer a)
      (tag : (t.source n).tag = (s.source n).tag) (idle : t.service = none)
      (service : ∃ v, s.service = some v ∧ v.src = n)
      (route : (t.source n).route = { (s.source n).route with descAddr := (t.source n).route.descAddr }) :
      RecordStep s t n c

/-! #### Placement -/

theorem State.source_placeHosts (b : BacklogEntry) (ports : List Port) :
    (s.placeHosts b ports).source n = (s.setSource b.src ((s.source b.src).offeredAt ports)).source n := by
  unfold State.placeHosts
  dsimp only
  rw [State.foldl_putOffer_eq]
  rfl

theorem recordStep_place : RecordStep s s.place n .placement := by
  unfold State.place
  split
  · rename_i b _
    have hplaced : Keeps s (s.setSource b.src { s.source b.src with state := .engineWait, exclusion := none }) n :=
      Keeps.refl.setSource b.src _ rfl rfl
    exact .kept _ (hplaced.of_sources rfl)
  · rename_i b ports _
    have hsrc := State.source_placeHosts (s := s) (n := n) b ports
    by_cases hn : n = b.src
    · subst hn
      rw [State.source_setSource_self] at hsrc
      refine .placed ?_ ?_ ?_ <;> rw [State.updateAttention_source, hsrc] <;> rfl
    · rw [State.source_setSource_ne s b.src n _ hn] at hsrc
      exact .kept _ (Keeps.of_source hsrc).updateAttention
  · exact .kept _ Keeps.refl

/-! #### ROUTE COMMIT and DISABLE -/

/-- Whatever a ROUTE COMMIT writes, it writes to its selected source (R24). -/
theorem State.commitRoute_cases (p : Port) : Keeps s (s.commitRoute p).1 n ∨
    Keeps (s.setSource (s.port p).selected ((s.source (s.port p).selected).commit (s.port p).staging.toRoute))
      (s.commitRoute p).1 n := by
  unfold State.commitRoute
  dsimp only
  split
  · exact .inl Keeps.refl
  split
  · exact .inl Keeps.refl
  refine .inr ?_
  split
  · exact (Keeps.latch (t := s.setSource _ _) Keeps.refl _).updateAttention
  · exact Keeps.updateAttention (t := s.setSource _ _) Keeps.refl

theorem SourceEntry.commit_tag (e : SourceEntry) (r : Route) : (e.commit r).tag = e.tag := by
  unfold SourceEntry.commit
  dsimp only
  split
  · rfl
  · split <;> rfl

theorem recordStep_routeCommit {p : Port} (hx : exec (.routeCommit p) s = .next t) :
    RecordStep s t n (.routeCommit p) := by
  rw [exec_routeCommit] at hx
  rcases State.commitRoute_cases (s := s) (n := n) p with hk | hk
  · exact .kept _ (hk.command hx)
  by_cases hn : (s.port p).selected = n
  · rcases State.command_cases s (.routeCommit p) p .leaseHolder (State.commitRoute p) with
      ⟨-, heq⟩ | ⟨-, code, -, heq⟩ | ⟨-, ha, heq⟩ <;> rw [heq] at hx <;> cases hx
    · exact .kept _ (Keeps.of_source rfl)
    · exact .kept _ (Keeps.of_source rfl)
    · refine .committed p ?_ hn ((State.refusal_none s .leaseHolder p).mp ha).2
      have htag := hk.tag
      rw [hn, State.source_setSource_self, SourceEntry.commit_tag] at htag
      exact htag
  · exact .kept _ (((Keeps.refl.setSource_ne (Ne.symm hn) _).trans hk).command hx)

theorem SourceEntry.disabledBy_tag (e : SourceEntry) : e.disabledBy.tag = e.tag := by
  unfold SourceEntry.disabledBy
  split <;> rfl

theorem SourceEntry.disabledBy_route (e : SourceEntry) : e.disabledBy.route = { e.route with enable := false } := by
  unfold SourceEntry.disabledBy
  split <;> rfl

theorem State.leaveCollection_sources (n : SourceId) : (s.leaveCollection n).sources = s.sources := by
  rw [State.leaveCollection_frame]

theorem recordStep_disable {p : Port} {m : SourceId} (hx : exec (.disable p m) s = .next t) :
    RecordStep s t n (.disable p m) := by
  rw [exec_disable] at hx
  by_cases hn : n = m
  · subst hn
    rcases State.command_cases s (.disable p n) p .leaseHolder (State.disableSource n) with
      ⟨-, heq⟩ | ⟨-, code, -, heq⟩ | ⟨-, ha, heq⟩ <;> rw [heq] at hx <;> cases hx
    · exact .kept _ (Keeps.of_source rfl)
    · exact .kept _ (Keeps.of_source rfl)
    · have hsrc : ((s.disableSource n).1.setResult p (s.disableSource n).2).source n = (s.source n).disabledBy := by
        rw [State.disableSource_eq, State.setResult_source, State.updateAttention_source, State.source_setSource_self]
      refine .disabled p ?_ ((State.refusal_none s .leaseHolder p).mp ha).2 ?_ <;> rw [hsrc]
      · exact SourceEntry.disabledBy_tag _
      · exact SourceEntry.disabledBy_route _
  · refine .kept _ (Keeps.command ?_ hx)
    rw [State.disableSource_eq]
    exact ((Keeps.refl.of_sources (State.leaveCollection_sources m)).setSource_ne hn _).updateAttention

/-! #### The end of a service -/

theorem recordStep_endService {c : Instr} {v : Service} (hc : (∃ a, c = .fetchAnswer a) ∨ ∃ a, c = .writebackAnswer a)
    (hv : s.service = some v) (addr : Option Word) (rs : List FaultRecord) (flag : Option EngineFlag) :
    RecordStep s (s.endService v.src addr rs flag).updateAttention n c := by
  have hidle : (s.endService v.src addr rs flag).updateAttention.service = none := by
    rw [(State.endService_offBooks v.src addr rs flag).trans OffBooks.updateAttention]
  have hclose : Keeps (s.closeService v.src addr rs) (s.endService v.src addr rs flag).updateAttention n := by
    refine Keeps.updateAttention ?_
    cases flag with
    | none => exact Keeps.refl.endOccurrence v.src
    | some f =>
      have hsrc := State.source_closeService (s := s) v.src addr rs
      rw [State.endService_flag]
      split
      · exact (Keeps.refl.setSource v.src _ (by rw [hsrc]) (by rw [hsrc])).enterBack v.src
      · exact Keeps.refl.setSource v.src _ (by rw [hsrc]; rfl) (by rw [hsrc]; rfl)
  have hout := (State.staysOut_closeService (s := s) v.src addr rs).source
  by_cases hn : n = v.src
  · subst hn
    have htag := hclose.tag
    have hroute := hclose.route
    rw [hout.source] at htag hroute
    exact .served c hc htag hidle ⟨v, hv, rfl⟩ (by rw [hroute]; rfl)
  · exact .kept c ((Keeps.of_source (hout.others n hn)).trans hclose)

/-- An answer to a descriptor read touches no source, or ends the service. -/
theorem State.fetchAnswer_cases (a : ReadAnswer) : (s.fetchAnswer a).sources = s.sources ∨
    ∃ v addr rs flag, s.service = some v ∧ s.fetchAnswer a = s.endService v.src addr rs flag := by
  unfold State.fetchAnswer
  split
  · exact .inl rfl
  rename_i v hv
  split
  · exact .inl rfl
  · exact .inl rfl
  · exact .inl rfl
  · unfold State.fetchDone
    split
    · exact .inr ⟨v, _, _, _, hv, rfl⟩
    · split
      · exact .inl rfl
      · exact .inr ⟨v, _, _, _, hv, rfl⟩
  · exact .inr ⟨v, _, _, _, hv, rfl⟩
  · exact .inr ⟨v, _, _, _, hv, rfl⟩
  · exact .inr ⟨v, _, _, _, hv, rfl⟩
  · exact .inr ⟨v, _, _, _, hv, rfl⟩
  · exact .inl rfl
  · exact .inl rfl
  · exact .inl rfl

/-- An answer to a writeback write touches no source, or ends the service. -/
theorem State.writebackAnswer_cases (a : WriteAnswer) : (s.writebackAnswer a).sources = s.sources ∨
    ∃ v addr rs flag, s.service = some v ∧ s.writebackAnswer a = s.endService v.src addr rs flag := by
  unfold State.writebackAnswer
  split
  · exact .inl rfl
  rename_i v hv
  split
  case h_2 => exact .inl rfl
  split
  · exact .inl rfl
  · exact .inl rfl
  · unfold State.endWriteback
    split
    · exact .inr ⟨v, _, _, _, hv, rfl⟩
    split
    · exact .inr ⟨v, _, _, _, hv, rfl⟩
    · exact .inr ⟨v, _, _, _, hv, rfl⟩
  · exact .inr ⟨v, _, _, _, hv, rfl⟩

theorem recordStep_fetchAnswer (a : ReadAnswer) : RecordStep s (s.fetchAnswer a).updateAttention n (.fetchAnswer a) := by
  rcases State.fetchAnswer_cases (s := s) a with hsrc | ⟨v, addr, rs, flag, hv, heq⟩
  · exact .kept _ (Keeps.refl.of_sources hsrc).updateAttention
  · rw [heq]
    exact recordStep_endService (.inl ⟨a, rfl⟩) hv addr rs flag

theorem recordStep_writebackAnswer (a : WriteAnswer) :
    RecordStep s (s.writebackAnswer a).updateAttention n (.writebackAnswer a) := by
  rcases State.writebackAnswer_cases (s := s) a with hsrc | ⟨v, addr, rs, flag, hv, heq⟩
  · exact .kept _ (Keeps.refl.of_sources hsrc).updateAttention
  · rw [heq]
    exact recordStep_endService (.inr ⟨a, rfl⟩) hv addr rs flag

/-! #### Every command -/

/-- Every command leaves the tag and the route record of a source in one of the ways of `RecordStep`. -/
theorem recordStep_exec {c : Instr} (hx : exec c s = .next t) : RecordStep s t n c := by
  cases c with
  | powerOn levels =>
    rw [exec_powerOn] at hx
    obtain rfl := Host.Outcome.next.inj hx
    refine .powered levels ?_
    change ((State.powerOn levels).source n).tag = 0
    rw [State.source_powerOn]
    rfl
  | partReset =>
    rw [exec_partReset] at hx
    cases hx
    split
    · exact .kept _ Keeps.refl
    · exact .kept _ State.keeps_assertReset
  | resetRelease levels =>
    rw [exec_resetRelease, execResetRelease] at hx
    split at hx <;> obtain rfl := Host.Outcome.next.inj hx
    · rename_i note _
      have hstart : Keeps s (s.released levels) n := Keeps.of_source rfl
      exact .kept _ ((hstart.handRecord (partResetRecord note)).foldl_latchAtRelease lineSources).updateAttention
    · exact .kept _ Keeps.refl
  | portReset prst =>
    rw [exec_portReset] at hx
    cases hx
    split
    · exact .kept _ (State.keeps_assertPortReset prst.port)
    · exact .kept _ (Keeps.of_source rfl)
  | lineChange l level =>
    rw [exec_lineChange] at hx
    cases hx
    split
    · exact .kept _ Keeps.refl
    have hsample : Keeps s (s.sampleLine l level) n := Keeps.of_source rfl
    split
    · exact .kept _ hsample
    · exact .kept _ (hsample.trans (State.keeps_judgeChange (lineSource l) level)).updateAttention
  | placement => cases hx; exact recordStep_place
  | tick =>
    rw [exec_tick] at hx
    cases hx
    split
    · exact .kept _ Keeps.refl
    · exact .kept _ (Keeps.of_source rfl)
  | expiry m =>
    rw [exec_expiry, execExpiry] at hx
    split at hx <;> obtain rfl := Host.Outcome.next.inj hx
    · split
      · exact .kept _ (State.keeps_expire m _).updateAttention
      · exact .kept _ Keeps.refl
    · exact .kept _ Keeps.refl
  | serviceStart => cases hx; exact .kept _ State.keeps_startService
  | fetchAnswer a => cases hx; exact recordStep_fetchAnswer a
  | unitReadAnswer a => cases hx; exact .kept _ (State.keeps_unitReadAnswer a).updateAttention
  | unitWriteAnswer a => cases hx; exact .kept _ (State.keeps_unitWriteAnswer a).updateAttention
  | writebackAnswer a => cases hx; exact recordStep_writebackAnswer a
  | join p => exact .kept _ (Keeps.command (Keeps.of_source rfl) (exec_join s p ▸ hx))
  | leave p => exact .kept _ ((State.keeps_leavePort p).command (exec_leave s p ▸ hx))
  | leaseTake p => exact .kept _ ((State.keeps_takeLease p).command (exec_leaseTake s p ▸ hx))
  | leaseDrop p => exact .kept _ ((State.keeps_dropLease p).command (exec_leaseDrop s p ▸ hx))
  | routeSelect p m => exact .kept _ (Keeps.command (Keeps.of_source rfl) (exec_routeSelect s p m ▸ hx))
  | staging0 p w => exact .kept _ ((State.keeps_writeStaging0 p w).command (exec_staging0 s p w ▸ hx))
  | staging1 p w => exact .kept _ (Keeps.command (Keeps.of_source rfl) (exec_staging1 s p w ▸ hx))
  | routeCommit p => exact recordStep_routeCommit hx
  | disable p m => exact recordStep_disable hx
  | resume p m => exact .kept _ ((State.keeps_resumeSource m).command (exec_resume s p m ▸ hx))
  | post p m d => exact .kept _ ((State.keeps_postPayload m d).command (exec_post s p m d ▸ hx))
  | unpost p m => exact .kept _ ((State.keeps_unpostSource m).command (exec_unpost s p m ▸ hx))
  | claim p => exact .kept _ ((State.keeps_claimRead p).orHold (exec_claim s p ▸ hx))
  | complete p m tag =>
    exact .kept _ ((State.keeps_matchClaim (State.keeps_completeClaim m)).command (exec_complete s p m tag ▸ hx))
  | returnClaim p m tag =>
    exact .kept _ ((State.keeps_matchClaim (State.keeps_giveBack m)).command (exec_returnClaim s p m tag ▸ hx))
  | extend p m tag =>
    exact .kept _ ((State.keeps_matchClaim (State.keeps_extendClaim m)).command (exec_extend s p m tag ▸ hx))
  | floor p v => exact .kept _ ((State.keeps_writeFloor p v).command (exec_floor s p v ▸ hx))
  | faultWatch p on => exact .kept _ (Keeps.command (Keeps.of_source rfl) (exec_faultWatch s p on ▸ hx))
  | tickDivider p v => exact .kept _ ((State.keeps_writeDivider v).command (exec_tickDivider s p v ▸ hx))
  | limit p i v => exact .kept _ ((State.keeps_writeLimit i v).command (exec_limit s p i v ▸ hx))
  | run p => exact .kept _ (Keeps.command (Keeps.of_source rfl) (exec_run s p ▸ hx))
  | halt p => exact .kept _ (Keeps.command (Keeps.of_source rfl) (exec_halt s p ▸ hx))
  | abort p => exact .kept _ (State.keeps_abortService.command (exec_abort s p ▸ hx))
  | fault p => exact .kept _ ((State.keeps_faultRead p).orHold (exec_fault s p ▸ hx))
  | narrowTakeRead p reg enables =>
    exact .kept _ (Keeps.orHold (Keeps.of_source rfl) (exec_narrowTakeRead s p reg enables ▸ hx))
  | undefinedAccess p a =>
    rw [exec_undefinedAccess] at hx
    split at hx
    · refine .kept _ (Keeps.orHold ?_ hx)
      split
      · exact Keeps.refl
      · exact Keeps.of_source rfl
    · cases hx

/-- Settles O51, by the way in which the command leaves the tag and the route record. -/
theorem tagAndRouteChangers : Obligations.TagAndRouteChangers := by
  intro c s t n hx
  cases recordStep_exec (n := n) hx with
  | kept _ keeps => exact ⟨.inl keeps.tag, .inl keeps.route⟩
  | placed tag route state => exact ⟨.inr (.inl ⟨rfl, tag, state⟩), .inl route⟩
  | powered levels tag => exact ⟨.inr (.inr ⟨levels, rfl, tag⟩), .inr (.inl ⟨levels, rfl⟩)⟩
  | committed p tag selected lease => exact ⟨.inl tag, .inr (.inr (.inl ⟨p, rfl, selected, lease⟩))⟩
  | disabled p tag lease route => exact ⟨.inl tag, .inr (.inr (.inr (.inl ⟨p, rfl, lease, route⟩)))⟩
  | served _ answer tag idle service route =>
    exact ⟨.inl tag, .inr (.inr (.inr (.inr ⟨answer, idle, service, route⟩)))⟩

end Sys2Proof.Machine
end

section
namespace Sys2Proof.Machine

variable {s t u : State}

/-! ### What an update of the books leaves -/

namespace OffBooks

theorem offers (h : OffBooks s t) : t.offers = s.offers := by rw [h]

theorem currentSample (h : OffBooks s t) : t.currentSample = s.currentSample := by rw [h]

theorem previousSample (h : OffBooks s t) : t.previousSample = s.previousSample := by rw [h]

end OffBooks

/-! ### A command whose rule refuses it -/

theorem isPosted_eq_false {n : SourceId} (h : n.val < 48) : isPosted n = false := by simp [isPosted, h]

theorem isPosted_eq_true {n : SourceId} (h : 48 ≤ n.val) : isPosted n = true := by simp [isPosted, h]

/-- A command that is taken and whose rule leaves the state as it is answers in RESULT alone (R162, R163). -/
theorem State.command_answers {c : Instr} {p : Port} {a : Admission} {rule : State → State × Result} {code : Result}
    (ht : takesAccesses s p) (ha : s.refusal a p = none) (hr : rule s = (s, code)) :
    ∃ t, s.command c p a rule = .next t ∧ OnlyResult s t p code := by
  have hx := State.command_taken (c := c) ht ha (rule := rule)
  rw [hr] at hx
  exact ⟨_, hx, State.onlyResult_setResult p code⟩

/-! ### POST -/

section
variable {n : SourceId} {d : Payload}

/-- The payloads of a source counted as R36 counts them: those in its queue, and the one in its claim. -/
theorem State.payloadTotal_eq_queue_add_claim (n : SourceId) : s.payloadTotal n =
    (s.source n).payloads.length + if ∃ c, s.claimOf n = some c ∧ c.payload ≠ none then 1 else 0 := by
  unfold State.payloadTotal
  cases s.claimOf n with
  | none => simp
  | some c => cases hc : c.payload <;> simp [hc]

theorem State.postPayload_line (h : n.val < 48) : s.postPayload n d = (s, .invalid) := by
  simp [State.postPayload, isPosted_eq_false h]

theorem State.postPayload_disabled (h : 48 ≤ n.val) (hen : (s.source n).route.enable = false) :
    s.postPayload n d = (s, .disabled) := by
  simp [State.postPayload, isPosted_eq_true h, hen]

theorem State.postPayload_full (h : 48 ≤ n.val) (hen : (s.source n).route.enable = true) (hfull : 4 ≤ s.payloadTotal n) :
    s.postPayload n d = (s, .full) := by
  simp [State.postPayload, isPosted_eq_true h, hen, Config.payloadRoom, hfull]

/-- The state with `d` appended to the payload queue of source `n` (R38). -/
def State.appendPayload (s : State) (n : SourceId) (d : Payload) : State :=
  s.setSource n { s.source n with payloads := (s.source n).payloads ++ [d] }

/-- An accepted payload is appended, and an IDLE source latches (R38). -/
theorem State.postPayload_accepted (h : 48 ≤ n.val) (hen : (s.source n).route.enable = true)
    (hroom : s.payloadTotal n < 4) : s.postPayload n d =
      ((if (s.source n).state = .idle then (s.appendPayload n d).latch n else s.appendPayload n d).updateAttention, .ok) := by
  simp [State.postPayload, State.appendPayload, isPosted_eq_true h, hen, Config.payloadRoom, Nat.not_le.mpr hroom]

end

/-- Settles O24, by the rows of Table 2-5. -/
theorem postIsJudgedInOrder : Obligations.PostIsJudgedInOrder := by
  intro s p n d ht hon e total
  have ha := (State.refusal_none s .onlineOnly p).mpr hon
  have htotal : s.payloadTotal n = total := State.payloadTotal_eq_queue_add_claim n
  rw [exec_post]
  refine ⟨fun h => State.command_answers ht ha (State.postPayload_line h),
    fun h hen => State.command_answers ht ha (State.postPayload_disabled h hen),
    fun h hen hfull => State.command_answers ht ha (State.postPayload_full h hen (htotal ▸ hfull)),
    fun h hen hroom => ?_⟩
  have hx := State.command_taken (c := .post p n d) (rule := State.postPayload n d) ht ha
  rw [State.postPayload_accepted h hen (htotal ▸ hroom)] at hx
  have happend : StaysOut s (s.appendPayload n d) n { e with payloads := e.payloads ++ [d] } [] :=
    State.staysOut_setSource _
  have hoff : OffBooks s (s.appendPayload n d) := OffBooks.setSource n _
  by_cases hst : e.state = .idle
  · rw [if_pos hst] at hx
    have hlatch := hoff.trans (OffBooks.latch n)
    exact ⟨_, hx, (hlatch.trans OffBooks.updateAttention).setResult p .ok,
      fun _ => happend.latch.congr (SameBooks.commandEnd p .ok), fun hne => absurd hst hne,
      portBecomes_commandEnd hlatch.port .ok, attnOk_commandEnd p .ok⟩
  · rw [if_neg hst] at hx
    exact ⟨_, hx, (hoff.trans OffBooks.updateAttention).setResult p .ok,
      fun hidle => absurd hidle hst, fun _ => happend.congr (SameBooks.commandEnd p .ok),
      portBecomes_commandEnd hoff.port .ok, attnOk_commandEnd p .ok⟩

end Sys2Proof.Machine
end

section
namespace Sys2Proof.Machine

variable {s t u : State}

/-! ### UNPOST, state by state -/

section
variable {n : SourceId}

theorem State.unpostSource_line (h : n.val < 48) : s.unpostSource n = (s, .invalid) := by
  simp [State.unpostSource, isPosted_eq_false h]

theorem State.unpostSource_disabled (h : 48 ≤ n.val) (hen : (s.source n).route.enable = false) :
    s.unpostSource n = (s, .disabled) := by
  simp [State.unpostSource, isPosted_eq_true h, hen]

variable (h : 48 ≤ n.val) (hen : (s.source n).route.enable = true)
include h hen

theorem State.unpostSource_latched (hst : (s.source n).state = .latched) :
    s.unpostSource n = (((s.dropEntry n).discardHead n).updateAttention, .ok) := by
  simp [State.unpostSource, isPosted_eq_true h, hen, hst]

theorem State.unpostSource_offered (hst : (s.source n).state = .offered) :
    s.unpostSource n = (((s.withdraw (fun _ => true) n).discardHead n).updateAttention, .ok) := by
  simp [State.unpostSource, isPosted_eq_true h, hen, hst]

theorem State.unpostSource_claimed_cons {d : Payload} {rest : List Payload} (hst : (s.source n).state = .claimed)
    (hq : (s.source n).payloads = d :: rest) :
    s.unpostSource n = (s.setSource n { s.source n with payloads := rest }, .ok) := by
  simp [State.unpostSource, isPosted_eq_true h, hen, hst, hq]

theorem State.unpostSource_claimed_nil (hst : (s.source n).state = .claimed) (hq : (s.source n).payloads = []) :
    s.unpostSource n = (s, .empty) := by
  simp [State.unpostSource, isPosted_eq_true h, hen, hst, hq]

theorem State.unpostSource_suspended_cons {d d' : Payload} {rest : List Payload}
    (hst : (s.source n).state = .suspended) (hq : (s.source n).payloads = d :: d' :: rest) :
    s.unpostSource n = (s.setSource n { s.source n with payloads := d :: rest }, .ok) := by
  simp [State.unpostSource, isPosted_eq_true h, hen, hst, hq]

theorem State.unpostSource_suspended_single {d : Payload} (hst : (s.source n).state = .suspended)
    (hq : (s.source n).payloads = [d]) : s.unpostSource n = (s, .empty) := by
  simp [State.unpostSource, isPosted_eq_true h, hen, hst, hq]

theorem State.unpostSource_idle (hst : (s.source n).state = .idle) : s.unpostSource n = (s, .empty) := by
  simp [State.unpostSource, isPosted_eq_true h, hen, hst]

end

/-! #### The current occurrence discarded -/

section
variable {n : SourceId} {e : SourceEntry} {before : List FaultRecord}

theorem OffBooks.discardHead (n : SourceId) : OffBooks s (s.discardHead n) := by
  unfold State.discardHead
  dsimp only
  split
  · exact (OffBooks.setSource n _).trans (OffBooks.setSource n _)
  · exact (OffBooks.setSource n _).trans (OffBooks.latch n)

/-- With the last payload discarded the source goes to IDLE (R40). -/
theorem StaysOut.discardHead_last (h : StaysOut s u n e before) (hq : e.payloads.tail = []) :
    StaysOut s (u.discardHead n) n { enteredIdle e with payloads := [] } before := by
  have hu : u.discardHead n = (u.setSource n { e with payloads := [] }).setSource n { enteredIdle e with payloads := [] } := by
    simp [State.discardHead, h.source.source, hq, enteredIdle, SourceEntry.toIdle, HandOnFlags.none]
  rw [hu]
  exact (h.setSource _).setSource _

/-- With a payload left the next occurrence latches (R40). -/
theorem StaysOut.discardHead_next (h : StaysOut s u n e before) (hq : e.payloads.tail ≠ []) :
    EntersBack s (u.discardHead n) n { newOccurrence e with payloads := e.payloads.tail } before := by
  have hu : u.discardHead n = (u.setSource n { e with payloads := e.payloads.tail }).latch n := by
    simp [State.discardHead, h.source.source, hq]
  rw [hu]
  exact (h.setSource _).latch

end

/-- What the UNPOST of a LATCHED or OFFERED source `n` at port `p` writes beside the offer queues, `left` being the backlog
without the source's entry: the head payload is discarded, and the next one latches or the source goes to IDLE (R40). -/
structure HeadDiscarded (s t : State) (p : Port) (n : SourceId) (left : List BacklogEntry) : Prop where
  frame     : t = { s with sources := t.sources, backlog := t.backlog, offers := t.offers, faults := t.faults,
                           dropped := t.dropped, ports := t.ports, attn := t.attn }
  idle      : (s.source n).payloads.tail = [] →
                StaysOut { s with backlog := left } t n { enteredIdle (s.source n) with payloads := [] } []
  next      : (s.source n).payloads.tail ≠ [] → EntersBack { s with backlog := left } t n
                { newOccurrence (s.source n) with payloads := (s.source n).payloads.tail } []
  port      : PortBecomes s t p { s.port p with result := .ok }
  attention : AttnOk t

/-- The head payload is discarded once the source has left its collection, in the state `u`. -/
theorem State.headDiscarded {n : SourceId} {left : List BacklogEntry} (p : Port)
    (hu : u = { s with backlog := left, offers := u.offers }) :
    HeadDiscarded s ((u.discardHead n).updateAttention.setResult p .ok) p n left := by
  have hout : StaysOut { s with backlog := left } u n (s.source n) [] := by
    rw [hu]; exact ⟨rfl, ⟨rfl, fun _ _ => rfl⟩, ⟨rfl, rfl⟩⟩
  have hport : ∀ q, u.port q = s.port q := fun q => by rw [hu]; rfl
  have hoff : OffBooks u (u.discardHead n) := OffBooks.discardHead n
  let t := (u.discardHead n).updateAttention.setResult p .ok
  have hframe : t = { u with sources := t.sources, backlog := t.backlog, faults := t.faults, dropped := t.dropped,
                             attn := t.attn, ports := t.ports } := (hoff.trans OffBooks.updateAttention).setResult p .ok
  have hoffers : t.offers = u.offers := hoff.offers
  refine ⟨?_, fun hq => (hout.discardHead_last hq).congr (SameBooks.commandEnd p .ok),
    fun hq => (hout.discardHead_next hq).congr (SameBooks.commandEnd p .ok),
    portBecomes_commandEnd (fun q => (hoff.port q).trans (hport q)) .ok, attnOk_commandEnd p .ok⟩
  calc t = { u with sources := t.sources, backlog := t.backlog, faults := t.faults, dropped := t.dropped,
                    attn := t.attn, ports := t.ports } := hframe
    _ = { s with sources := t.sources, backlog := t.backlog, offers := u.offers, faults := t.faults,
                 dropped := t.dropped, ports := t.ports, attn := t.attn } := by rw [hu]
    _ = _ := by rw [← hoffers]

theorem State.queue_commandEnd_discardHead (n : SourceId) (p q : Port) :
    ((u.discardHead n).updateAttention.setResult p .ok).queue q = u.queue q :=
  congrArg (·[q]) (OffBooks.discardHead (s := u) n).offers

/-- Settles O25, by the state in which the UNPOST finds its source. -/
theorem unpostRemovesCurrentOccurrence : Obligations.UnpostRemovesCurrentOccurrence := by
  intro s p n ht hon e
  have ha := (State.refusal_none s .onlineOnly p).mpr hon
  have hx := State.command_taken (c := .unpost p n) (rule := State.unpostSource n) ht ha
  rw [exec_unpost]
  refine ⟨fun h => State.command_answers ht ha (State.unpostSource_line h),
    fun h hen => State.command_answers ht ha (State.unpostSource_disabled h hen), fun h hen hst => ?_⟩
  let left : List BacklogEntry := if e.state = .latched then s.backlog.filter fun b => b.src ≠ n else s.backlog
  rcases hst with hst | hst
  · have hnot : e.state ≠ .offered := by simp [hst]
    have hleft : left = s.backlog.filter fun b => b.src ≠ n := if_pos hst
    have hu : s.dropEntry n = { s with backlog := left, offers := (s.dropEntry n).offers } := by
      simp [hleft, State.dropEntry, bne, beq_eq_decide]
    rw [State.unpostSource_latched h hen hst] at hx
    obtain ⟨frame, idle, next, port, attention⟩ := State.headDiscarded (n := n) p hu
    exact ⟨_, hx, frame, fun q => (State.queue_commandEnd_discardHead n p q).trans (if_neg hnot).symm, idle, next, port,
      attention⟩
  · have hnot : e.state ≠ .latched := by simp [hst]
    have hleft : left = s.backlog := if_neg hnot
    have hu : s.withdraw (fun _ => true) n =
        { s with backlog := left, offers := (s.withdraw (fun _ => true) n).offers } := by rw [hleft]; rfl
    have hqueue : ∀ q, (s.withdraw (fun _ => true) n).queue q = (s.queue q).filter fun o => o.src ≠ n := fun q => by
      simp [State.queue_withdraw, bne, beq_eq_decide]
    rw [State.unpostSource_offered h hen hst] at hx
    obtain ⟨frame, idle, next, port, attention⟩ := State.headDiscarded (n := n) p hu
    exact ⟨_, hx, frame,
      fun q => (State.queue_commandEnd_discardHead n p q).trans ((hqueue q).trans (if_pos hst).symm), idle, next, port,
      attention⟩

/-! #### The queue behind the occurrence -/

/-- Settles O26, by the state of the source and the length of its queue. -/
theorem unpostBehindCurrentOccurrence : Obligations.UnpostBehindCurrentOccurrence := by
  intro s p n ht hon hen h he e discards refused
  have ha := (State.refusal_none s .onlineOnly p).mpr hon
  have hx := State.command_taken (c := .unpost p n) (rule := State.unpostSource n) ht ha
  have hdiscards : ∀ ps, s.unpostSource n = (s.setSource n { e with payloads := ps }, .ok) → discards ps := fun ps hr => by
    rw [hr] at hx
    exact ⟨_, hx, rfl, ⟨State.source_setSource_self s n _, fun m hm => State.source_setSource_ne s n m _ hm⟩,
      portBecomes_setResult (s := s) (t := s.setSource n _) (fun _ => rfl) .ok⟩
  have hrefused : s.unpostSource n = (s, .empty) → refused := State.command_answers ht ha
  refine ⟨fun d rest hst hq => hdiscards rest (State.unpostSource_claimed_cons h hen hst hq),
    fun hst hq => hrefused (State.unpostSource_claimed_nil h hen hst hq),
    fun d d' rest hst hq => hdiscards (d :: rest) (State.unpostSource_suspended_cons h hen hst hq),
    fun d hst hq => hrefused (State.unpostSource_suspended_single h hen hst hq),
    fun hst => ⟨?_, hrefused (State.unpostSource_idle h hen hst)⟩⟩
  obtain ⟨-, -, -, -, hpayloads, -⟩ := he.cleared (.inl hst)
  exact hpayloads

end Sys2Proof.Machine
end

section
namespace Sys2Proof.Machine

variable {s t u : State}

/-! ### Samples, levels and the changes that have no effect -/

/-- Line `l` has a new sample in `t`; the samples of the other lines are those of `s` (R28, log entry 15). -/
def LineSampled (s t : State) (l : LineId) (level : Bool) : Prop :=
  (∀ k : LineId, t.currentSample.getLsbD k.val = if k = l then level else s.currentSample.getLsbD k.val) ∧
  ∀ k : LineId, t.previousSample.getLsbD k.val =
    if k = l then s.currentSample.getLsbD k.val else s.previousSample.getLsbD k.val

section
variable {l : LineId} {level : Bool} {n : SourceId}

theorem State.lineSampled_sampleLine (l : LineId) (level : Bool) : LineSampled s (s.sampleLine l level) l level := by
  refine ⟨fun k => setLevel_getLsbD _ _ _ _, fun k => (setLevel_getLsbD _ _ _ _).trans ?_⟩
  split
  next hk => rw [hk]
  next => rfl

theorem LineSampled.offBooks (h : LineSampled s t l level) (ht : OffBooks t u) : LineSampled s u l level := by
  unfold LineSampled
  rw [ht.currentSample, ht.previousSample]
  exact h

/-- The level that Table 2-2 calls active. -/
theorem Detection.active_iff (o : Option Detection) (level : Bool) :
    (∃ d, o = some d ∧ d.active level = true) ↔ (o = some .high ∧ level = true) ∨ (o = some .low ∧ level = false) := by
  cases o with
  | none => simp
  | some d => cases d <;> simp [Detection.active]

/-- The changes that Table 2-2 names as qualifying edges. -/
theorem Detection.qualifies_iff (o : Option Detection) (level : Bool) :
    (∃ d, o = some d ∧ d.qualifies level = true) ↔
      (o = some .rising ∧ level = true) ∨ (o = some .falling ∧ level = false) ∨ o = some .both := by
  cases o with
  | none => simp
  | some d => cases d <;> simp [Detection.qualifies]

theorem Detection.not_qualifies_of_active {d : Detection} (h : d.active level = true) : d.qualifies level = false := by
  cases d with
  | rising | falling | both => simp [Detection.active] at h
  | high | low => rfl

theorem State.judgeChange_disabled (hen : (s.source n).route.enable = false) : s.judgeChange n level = s := by
  simp [State.judgeChange, hen]

/-- A change that the detection setting does not name has no effect (R30). -/
theorem State.judgeChange_unnamed (hactive : ¬∃ d, (s.source n).route.detection = some d ∧ d.active level = true)
    (hedge : ¬∃ d, (s.source n).route.detection = some d ∧ d.qualifies level = true) : s.judgeChange n level = s := by
  unfold State.judgeChange
  split
  case isFalse => rfl
  split
  case h_2 => rfl
  next d hd => rw [if_neg fun hq => hedge ⟨d, hd, hq⟩, if_neg fun ha => hactive ⟨d, hd, ha⟩]

theorem State.judgeChange_active {d : Detection} (hen : (s.source n).route.enable = true)
    (hd : (s.source n).route.detection = some d) (hactive : d.active level = true) :
    s.judgeChange n level = s.activation n := by
  simp [State.judgeChange, hen, hd, hactive, Detection.not_qualifies_of_active hactive]

/-- An activation has no effect on a source that is not IDLE (R33). -/
theorem State.judgeChange_active_not_idle {d : Detection} (hd : (s.source n).route.detection = some d)
    (hactive : d.active level = true) (hst : (s.source n).state ≠ .idle) : s.judgeChange n level = s := by
  cases hen : (s.source n).route.enable with
  | false => exact State.judgeChange_disabled hen
  | true => rw [State.judgeChange_active hen hd hactive, State.activation, if_neg hst]

theorem exec_lineChange_same (hawake : s.resetNote = none) (hsame : s.currentSample.getLsbD l.val = level) :
    exec (.lineChange l level) s = .next (s.sampleLine l level) := by
  rw [exec_lineChange, hawake, if_neg (by simp), if_pos hsame]

theorem exec_lineChange_judged (hawake : s.resetNote = none) (hchange : s.currentSample.getLsbD l.val ≠ level) :
    exec (.lineChange l level) s =
      .next ((s.sampleLine l level).judgeChange (lineSource l) level).updateAttention := by
  rw [exec_lineChange, hawake, if_neg (by simp), if_neg hchange]

/-- The samples alone record the LINE_CHANGE; the attention outputs stay where they follow their conditions. -/
structure SamplesAlone (s t : State) (l : LineId) (level : Bool) : Prop where
  sampled   : LineSampled s t l level
  frame     : t = { s with currentSample := t.currentSample, previousSample := t.previousSample, attn := t.attn }
  attention : AttnOk s → AttnOk t

/-- A LINE_CHANGE whose change, if it is one, is judged to have no effect is recorded in the samples alone (R28, R30). -/
theorem exec_lineChange_samplesAlone (hawake : s.resetNote = none)
    (hjudge : s.currentSample.getLsbD l.val ≠ level →
      (s.sampleLine l level).judgeChange (lineSource l) level = s.sampleLine l level) :
    ∃ t, exec (.lineChange l level) s = .next t ∧ SamplesAlone s t l level := by
  have hsampled := State.lineSampled_sampleLine (s := s) l level
  by_cases hchange : s.currentSample.getLsbD l.val = level
  · exact ⟨_, exec_lineChange_same hawake hchange, hsampled, rfl,
      fun h => h.congr rfl (fun _ => ⟨rfl, rfl, rfl⟩) (fun _ => rfl) rfl⟩
  · have hx := exec_lineChange_judged hawake hchange
    rw [hjudge hchange] at hx
    exact ⟨_, hx, hsampled.offBooks OffBooks.updateAttention, rfl, fun _ => attnOk_updateAttention⟩

end

/-- Settles O40, by what the new sample is to the detection setting and to the state of the source. -/
theorem levelsAndOtherChanges : Obligations.LevelsAndOtherChanges := by
  intro s l n level hn e high low sampled samplesOnly active edge
  obtain rfl : lineSource l = n := Fin.ext hn.symm
  have halone (hawake : s.resetNote = none) (hjudge : s.currentSample.getLsbD l.val ≠ level →
      (s.sampleLine l level).judgeChange (lineSource l) level = s.sampleLine l level) : samplesOnly := by
    obtain ⟨t, hx, hs⟩ := exec_lineChange_samplesAlone hawake hjudge
    exact ⟨t, hx, hs.sampled, hs.frame, hs.attention⟩
  have hactive_iff : (∃ d, e.route.detection = some d ∧ d.active level = true) ↔ active := Detection.active_iff _ _
  have hedge_iff : (∃ d, e.route.detection = some d ∧ d.qualifies level = true) ↔ edge := Detection.qualifies_iff _ _
  refine ⟨fun hreset => ?_, fun hawake hsame => halone hawake fun hchange => absurd hsame hchange,
    fun hawake hen => halone hawake fun _ => State.judgeChange_disabled hen,
    fun hawake hna hne => halone hawake fun _ =>
      State.judgeChange_unnamed (fun h => hna (hactive_iff.mp h)) (fun h => hne (hedge_iff.mp h)),
    fun hawake hact hst => ?_, fun hawake hchange hen hact hst => ?_⟩
  · rw [exec_lineChange, if_pos (Option.isSome_iff_ne_none.mpr hreset)]
  · obtain ⟨d, hd, hda⟩ := hactive_iff.mpr hact
    exact halone hawake fun _ => State.judgeChange_active_not_idle hd hda hst
  · obtain ⟨d, hd, hda⟩ := hactive_iff.mpr hact
    have hx := exec_lineChange_judged hawake hchange
    have hjudge : (s.sampleLine l level).judgeChange (lineSource l) level = (s.sampleLine l level).latch (lineSource l) :=
      (State.judgeChange_active (s := s.sampleLine l level) hen hd hda).trans (if_pos hst)
    rw [hjudge] at hx
    have hoff : OffBooks (s.sampleLine l level) ((s.sampleLine l level).latch (lineSource l)).updateAttention :=
      (OffBooks.latch _).trans OffBooks.updateAttention
    have hstay : StaysOut s (s.sampleLine l level) (lineSource l) e [] := ⟨rfl, ⟨rfl, fun _ _ => rfl⟩, ⟨rfl, rfl⟩⟩
    refine ⟨_, hx, (State.lineSampled_sampleLine l level).offBooks hoff, ?_,
      hstay.latch.congr SameBooks.updateAttention, attnOk_updateAttention⟩
    rw [hoff.currentSample, hoff.previousSample]
    exact hoff

end Sys2Proof.Machine
end

section
namespace Sys2Proof.Machine

variable {s t : State}

/-! ### The tick and the part clock cycle -/

/-- An expiry is due when the timer of some claim stands at 0 (R114). -/
theorem State.expiryDue_iff : s.expiryDue = true ↔ ∃ n c, s.claimOf n = some c ∧ c.remaining = some 0 := by
  simp only [State.expiryDue, State.claimOf, Claim.due, List.any_eq_true, Vector.mem_toList_iff, Option.any_eq_true,
    beq_iff_eq]
  constructor
  · rintro ⟨o, ho, c, rfl, hc⟩
    obtain ⟨i, hi, hget⟩ := Vector.getElem_of_mem ho
    exact ⟨⟨i, hi⟩, c, hget, hc⟩
  · rintro ⟨n, c, hget, hc⟩
    exact ⟨some c, hget ▸ Vector.getElem_mem n.isLt, c, rfl, hc⟩

theorem State.expiryDue_eq_false (h : ∀ n c, s.claimOf n = some c → c.remaining ≠ some 0) : s.expiryDue = false :=
  Bool.eq_false_iff.mpr fun hdue => by
    obtain ⟨n, c, hc, hzero⟩ := State.expiryDue_iff.mp hdue
    exact h n c hc hzero

/-- A tick lowers the timer of every timed claim by 1 (R114). -/
theorem State.claimOf_takeTick (n : SourceId) : s.takeTick.claimOf n = (s.claimOf n).map Claim.ticked := by
  simp [State.claimOf, State.takeTick]

theorem State.takeTick_frame : s.takeTick =
    { s with prescale := 0, interval := s.divider, previousSample := s.currentSample, claims := s.takeTick.claims } := rfl

theorem exec_tick_taken (hawake : s.resetNote = none) (hdue : s.expiryDue = false) :
    exec .tick s = .next s.takeTick := by
  simp [exec_tick, hawake, hdue]

/-- A tick waits for the release of RESET and for the expiries that are due (R111, R114). -/
theorem exec_tick_waits (h : s.resetNote ≠ none ∨ s.expiryDue = true) : exec .tick s = .next s := by
  rw [exec_tick]
  rcases h with hreset | hdue
  · simp [Option.isSome_iff_ne_none.mpr hreset]
  · simp [hdue]

/-- Settles O32. -/
theorem tickLowersTimers : Obligations.TickLowersTimers :=
  fun _ => ⟨fun hawake hdue => ⟨_, exec_tick_taken hawake (State.expiryDue_eq_false hdue), State.takeTick_frame,
    State.claimOf_takeTick⟩, fun hwait => exec_tick_waits (hwait.imp_right State.expiryDue_iff.mpr)⟩

theorem State.clockCycle_reset (h : s.resetNote ≠ none) : s.clockCycle = s := if_pos (Option.isSome_iff_ne_none.mpr h)

theorem State.clockCycle_counts (hawake : s.resetNote = none) (h : s.prescale + 1 < s.interval) :
    s.clockCycle = { s with prescale := s.prescale + 1, previousSample := s.currentSample } := by
  simp [State.clockCycle, hawake, h]

/-- The cycle that ends the interval waits while an expiry is due, and takes the tick otherwise (R111, R114). -/
theorem State.clockCycle_ends (hawake : s.resetNote = none) (h : s.interval ≤ s.prescale + 1) :
    s.clockCycle = if s.expiryDue then s else s.takeTick := by
  simp [State.clockCycle, hawake, Nat.not_lt.mpr h]

/-- Settles O2, by the place of the cycle in the interval. -/
theorem idleStepIsOneClockCycle : Obligations.IdleStepIsOneClockCycle := by
  intro s hidle
  have hstep : step s = .next s.clockCycle := by rw [step, hidle]
  refine ⟨_, hstep, State.clockCycle_reset, State.clockCycle_counts, fun hawake hend hdue => ?_,
    fun hawake hend hdue => ?_⟩
  · rw [State.clockCycle_ends hawake hend, if_pos (State.expiryDue_iff.mpr hdue)]
  · rw [State.clockCycle_ends hawake hend, State.expiryDue_eq_false hdue]
    exact ⟨State.takeTick_frame, State.claimOf_takeTick⟩

end Sys2Proof.Machine
end

section
namespace Sys2Proof.Machine

/-! ### Where an insertion stands in its band -/

/-- An insertion at the back of a band cuts the list behind the classes at or above its own (R47, R72). -/
theorem insertBack_split {α : Type} (cls : α → SourceClass) (a : α) {l : List α}
    (h : l.Pairwise fun x y => cls y ≤ cls x) :
    ∃ ahead behind, l = ahead ++ behind ∧ insertBack cls a l = ahead ++ a :: behind ∧
      (∀ x ∈ ahead, cls a ≤ cls x) ∧ ∀ x ∈ behind, cls x < cls a := by
  induction l with
  | nil => exact ⟨[], [], rfl, rfl, by simp, by simp⟩
  | cons x xs ih =>
    obtain ⟨hx, hxs⟩ := List.pairwise_cons.mp h
    by_cases hle : cls a ≤ cls x
    · obtain ⟨ahead, behind, hl, hins, hahead, hbehind⟩ := ih hxs
      refine ⟨x :: ahead, behind, congrArg (x :: ·) hl, ?_, List.forall_mem_cons.mpr ⟨hle, hahead⟩, hbehind⟩
      rw [insertBack, if_pos hle, hins]
      rfl
    · have hlt : cls x < cls a := not_le.mp hle
      refine ⟨[], x :: xs, rfl, by rw [insertBack, if_neg hle]; rfl, by simp, ?_⟩
      exact List.forall_mem_cons.mpr ⟨hlt, fun y hy => (hx y hy).trans_lt hlt⟩

/-- An insertion at the front of a band cuts the list behind the classes above its own (R47, R72). -/
theorem insertFront_split {α : Type} (cls : α → SourceClass) (a : α) {l : List α}
    (h : l.Pairwise fun x y => cls y ≤ cls x) :
    ∃ ahead behind, l = ahead ++ behind ∧ insertFront cls a l = ahead ++ a :: behind ∧
      (∀ x ∈ ahead, cls a < cls x) ∧ ∀ x ∈ behind, cls x ≤ cls a := by
  induction l with
  | nil => exact ⟨[], [], rfl, rfl, by simp, by simp⟩
  | cons x xs ih =>
    obtain ⟨hx, hxs⟩ := List.pairwise_cons.mp h
    by_cases hlt : cls a < cls x
    · obtain ⟨ahead, behind, hl, hins, hahead, hbehind⟩ := ih hxs
      refine ⟨x :: ahead, behind, congrArg (x :: ·) hl, ?_, List.forall_mem_cons.mpr ⟨hlt, hahead⟩, hbehind⟩
      rw [insertFront, if_pos hlt, hins]
      rfl
    · have hle : cls x ≤ cls a := not_lt.mp hlt
      refine ⟨[], x :: xs, rfl, by rw [insertFront, if_neg hlt]; rfl, by simp, ?_⟩
      exact List.forall_mem_cons.mpr ⟨hle, fun y hy => (hx y hy).trans hle⟩

/-- Settles O8, by induction on the list. -/
theorem insertionStandsInBand : Obligations.InsertionStandsInBand :=
  fun _ cls a _ h => ⟨insertBack_split cls a h, insertFront_split cls a h⟩

end Sys2Proof.Machine
end

section
namespace Sys2Proof.Machine

variable {s : State}

/-! ### Where an entry has its place -/

/-- When an entry is engine-bound (R53). -/
theorem SourceEntry.engineBound_iff (e : SourceEntry) : e.engineBound = true ↔
    e.route.descAddr ≠ none ∧ e.flags.done = false ∧ e.flags.fault = false ∧ e.flags.aborted = false := by
  simp [SourceEntry.engineBound, SourceEntry.armed, Option.isSome_iff_ne_none, and_assoc]

theorem State.candidate_iff {e : SourceEntry} {p : Port} : s.candidate e p = true ↔ isCandidate s e p := by
  have hroom : (s.queue p).length < Config.offerRoom ↔ (s.queue p).length < 16 := Iff.rfl
  simp [State.candidate, isCandidate, State.setAside, State.otherEligibleOnline, hroom, allPorts, and_assoc,
    ← imp_iff_not_or]

theorem State.mem_candidates {e : SourceEntry} {p : Port} : p ∈ s.candidates e ↔ isCandidate s e p := by
  rw [State.candidates, List.mem_filter, State.candidate_iff]
  exact and_iff_right (List.mem_finRange p)

/-- A port of an eligible set of one port is that port. -/
theorem Route.eq_of_eligibleFor {r : Route} {p q : Port} (hq : r.eligible = BitVec.twoPow 4 q.val)
    (hp : r.eligibleFor p = true) : p = q := by
  have hbit : ∀ p q : Port, (BitVec.twoPow 4 q.val).getLsbD p.val = true → p = q := by decide
  exact hbit p q (hq ▸ hp)

theorem State.hostPlace_fixed {e : SourceEntry} (h : e.route.mode = .fixed) :
    s.hostPlace e = (s.candidates e).take 1 := by rw [State.hostPlace, h]

theorem State.hostPlace_shared {e : SourceEntry} (h : e.route.mode = .shared) :
    s.hostPlace e = (s.sharedChoice e).toList := by rw [State.hostPlace, h]

theorem State.hostPlace_contest {e : SourceEntry} (h : e.route.mode = .contest) :
    s.hostPlace e = s.candidates e := by rw [State.hostPlace, h]

/-- With one eligible port the exclusion never sets it aside (R55, R56). -/
theorem isCandidate_of_one_eligible {e : SourceEntry} {p q : Port} (hq : e.route.eligible = BitVec.twoPow 4 q.val) :
    isCandidate s e p ↔ e.route.eligibleFor p = true ∧ s.online p = true ∧ (s.queue p).length < 16 := by
  refine ⟨fun ⟨h1, h2, h3, _⟩ => ⟨h1, h2, h3⟩, fun ⟨h1, h2, h3⟩ => ⟨h1, h2, h3, ?_⟩⟩
  rintro ⟨-, r, hne, hr, -⟩
  exact hne ((Route.eq_of_eligibleFor hq hr).trans (Route.eq_of_eligibleFor hq h1).symm)

/-- The one candidate of a FIXED entry is its place (R56). -/
theorem State.mem_hostPlace_fixed {e : SourceEntry} {p q : Port} (hm : e.route.mode = .fixed)
    (hq : e.route.eligible = BitVec.twoPow 4 q.val) : p ∈ s.hostPlace e ↔ isCandidate s e p := by
  have hsub : s.candidates e ⊆ [q] := fun r hr =>
    List.mem_singleton.mpr (Route.eq_of_eligibleFor hq (State.mem_candidates.mp hr).1)
  have hlen : (s.candidates e).length ≤ 1 := (((List.nodup_finRange 4).filter _).subperm hsub).length_le
  rw [State.hostPlace_fixed hm, List.take_of_length_le hlen, State.mem_candidates]

/-! #### The choice of a SHARED placement -/

/-- The first element of a list in ascending order of `key` that passes a test is the passing one with the least key. -/
theorem find?_eq_some_iff_least {α : Type} {key : α → Nat} {f : α → Bool} {a : α} {l : List α}
    (hl : l.Pairwise fun x y => key x < key y) :
    l.find? f = some a ↔ a ∈ l ∧ f a = true ∧ ∀ b ∈ l, f b = true → key a ≤ key b := by
  induction l with
  | nil => simp
  | cons x xs ih =>
    obtain ⟨hx, hxs⟩ := List.pairwise_cons.mp hl
    cases hf : f x with
    | true =>
      rw [List.find?_cons_of_pos hf, Option.some_inj]
      constructor
      · rintro rfl
        refine ⟨List.mem_cons_self, hf, fun b hb _ => ?_⟩
        rcases List.mem_cons.mp hb with rfl | hb
        · exact le_rfl
        · exact (hx b hb).le
      · rintro ⟨ha, -, hleast⟩
        rcases List.mem_cons.mp ha with rfl | ha
        · rfl
        · exact absurd (hleast x List.mem_cons_self hf) (not_le.mpr (hx a ha))
    | false =>
      rw [List.find?_cons_of_neg (by simp [hf]), ih hxs]
      constructor
      · rintro ⟨ha, hfa, hleast⟩
        refine ⟨List.mem_cons_of_mem x ha, hfa, fun b hb hfb => ?_⟩
        rcases List.mem_cons.mp hb with rfl | hb
        · rw [hf] at hfb; cases hfb
        · exact hleast b hb hfb
      · rintro ⟨ha, hfa, hleast⟩
        rcases List.mem_cons.mp ha with rfl | ha
        · rw [hf] at hfa; cases hfa
        · exact ⟨ha, hfa, fun b hb => hleast b (List.mem_cons_of_mem x hb)⟩

/-- How far port `p` stands behind the first port of the rotation that starts after port `last` (R58). -/
def rotationRank (last p : Port) : Nat := (p - (last + 1)).val

theorem rotationAfter_ascending (last : Port) :
    (rotationAfter last).Pairwise fun p q => rotationRank last p < rotationRank last q := by
  revert last
  decide

theorem mem_rotationAfter (last p : Port) : p ∈ rotationAfter last := by
  revert last p
  decide

theorem State.leastLoaded_iff {e : SourceEntry} {p : Port} : s.leastLoaded (s.candidates e) p = true ↔
    isCandidate s e p ∧ ∀ q, isCandidate s e q → s.load p ≤ s.load q := by
  simp [State.leastLoaded, State.mem_candidates]

/-- The choice is the candidate with the smallest load, ties broken by the rotation (R57, R58). -/
theorem State.sharedChoice_eq_some {e : SourceEntry} {p : Port} : s.sharedChoice e = some p ↔
    isCandidate s e p ∧ ∀ q, isCandidate s e q → s.load p < s.load q ∨
      (s.load p = s.load q ∧ rotationRank e.lastChosen p ≤ rotationRank e.lastChosen q) := by
  rw [State.sharedChoice, find?_eq_some_iff_least (rotationAfter_ascending e.lastChosen)]
  simp only [mem_rotationAfter, true_and, true_implies, State.leastLoaded_iff]
  constructor
  · rintro ⟨⟨hp, hload⟩, hrank⟩
    refine ⟨hp, fun q hq => (hload q hq).lt_or_eq.imp_right fun heq => ⟨heq, hrank q ⟨hq, fun r hr => ?_⟩⟩⟩
    exact heq ▸ hload r hr
  · rintro ⟨hp, hbest⟩
    refine ⟨⟨hp, fun q hq => (hbest q hq).elim le_of_lt fun h => h.1.le⟩, fun q ⟨hq, hload⟩ => ?_⟩
    exact (hbest q hq).elim (fun hlt => absurd (hload p hp) (not_le.mpr hlt)) And.right

/-- A SHARED entry waits exactly when it has no candidate (R57). -/
theorem State.sharedChoice_eq_none {e : SourceEntry} : s.sharedChoice e = none ↔ ∀ q, ¬isCandidate s e q := by
  rw [State.sharedChoice, List.find?_eq_none]
  simp only [mem_rotationAfter, true_implies, State.leastLoaded_iff]
  refine ⟨fun hnone q hq => ?_, fun hnone p hp => hnone p hp.1⟩
  obtain ⟨p, hp, hleast⟩ := (s.candidates e).toFinset.exists_min_image s.load
    ⟨q, List.mem_toFinset.mpr (State.mem_candidates.mpr hq)⟩
  simp only [List.mem_toFinset, State.mem_candidates] at hp hleast
  exact hnone p ⟨hp, hleast⟩

/-- The load of a port counted as R57 counts it. -/
theorem State.load_eq (p : Port) : s.load p = (s.queue p).length +
    (List.finRange 64).countP fun n => (s.claimOf n).any fun c => c.port == p := by
  have hholds : s.holds p = fun n => (s.claimOf n).any fun c => c.port == p := funext fun n => by
    unfold State.holds
    cases s.claimOf n <;> rfl
  rw [State.load, State.claimCount, hholds]
  rfl

/-! #### The first entry that has a place -/

theorem State.placeOf_engineBound {n : SourceId} (h : (s.source n).engineBound = true) :
    s.placeOf n = if s.engineQueue.length < 8 then some .engine else none := if_pos h

theorem State.placeOf_hostBound {n : SourceId} (h : (s.source n).engineBound = false) :
    s.placeOf n = if s.hostPlace (s.source n) = [] then none else some (.hosts (s.hostPlace (s.source n))) := by
  simp only [State.placeOf, h, Bool.false_eq_true, if_false]
  split <;> simp [*]

/-- When an entry waits (R52, R54). -/
theorem State.placeOf_eq_none {n : SourceId} : s.placeOf n = none ↔
    ((s.source n).engineBound = true ∧ 8 ≤ s.engineQueue.length) ∨
      ((s.source n).engineBound = false ∧ s.hostPlace (s.source n) = []) := by
  cases hb : (s.source n).engineBound with
  | true => simp [State.placeOf_engineBound hb]
  | false => simp [State.placeOf_hostBound hb]

/-- No placement is taken while every entry waits (R52). -/
theorem State.place_waits (h : ∀ b ∈ s.backlog, s.placeOf b.src = none) : s.place = s := by
  have hnone : s.firstPlaceable = none := List.findSome?_eq_none_iff.mpr fun b hb => by rw [h b hb]; rfl
  rw [State.place, hnone]

/-- An entry that has a place is the first to have one when every entry ahead of it waits (R51). -/
theorem State.firstPlaceable_eq {ahead behind : List BacklogEntry} {b : BacklogEntry} {pl : Place}
    (hb : s.backlog = ahead ++ b :: behind) (hahead : ∀ x ∈ ahead, s.placeOf x.src = none)
    (hpl : s.placeOf b.src = some pl) : s.firstPlaceable = some (b, pl) := by
  have hnone : ahead.findSome? (fun b => (s.placeOf b.src).map fun pl => (b, pl)) = none :=
    List.findSome?_eq_none_iff.mpr fun x hx => by rw [hahead x hx]; rfl
  rw [State.firstPlaceable, hb, List.findSome?_append, hnone]
  simp [hpl]

/-- The backlog without the entry of a source that has one entry (R49). -/
theorem State.dropEntry_backlog_split {ahead behind : List BacklogEntry} {b : BacklogEntry}
    (hb : s.backlog = ahead ++ b :: behind) (hone : ∀ x ∈ ahead ++ behind, x.src ≠ b.src) :
    (s.dropEntry b.src).backlog = ahead ++ behind := by
  have hkeep : (ahead ++ behind).filter (fun x => x.src != b.src) = ahead ++ behind :=
    List.filter_eq_self.mpr fun x hx => by simpa using hone x hx
  rw [State.dropEntry, hb, List.filter_append, List.filter_cons_of_neg (by simp), ← List.filter_append, hkeep]

/-- Settles O43, mode by mode and by the kind of the entry. -/
theorem placesOfEntries : Obligations.PlacesOfEntries := by
  refine ⟨fun s e p => ?_, SourceEntry.engineBound_iff, fun s n => State.placeOf_eq_none, fun s h => ?_⟩
  · dsimp only
    simp only [← State.load_eq]
    refine ⟨fun hm ⟨q, hq⟩ => ?_, fun hm => ?_, fun hm => ?_, fun hm => ?_⟩
    · rw [State.mem_hostPlace_fixed hm hq, isCandidate_of_one_eligible hq]
    · rw [State.hostPlace_contest hm, State.mem_candidates]
    · rw [State.hostPlace_shared hm, Option.toList_eq_singleton_iff]
      exact State.sharedChoice_eq_some
    · rw [State.hostPlace_shared hm, Option.toList_eq_nil_iff]
      exact State.sharedChoice_eq_none
  · rw [exec_placement, State.place_waits h]

end Sys2Proof.Machine
end

section
namespace Sys2Proof.Machine

variable {s : State}

/-! ### What a placement writes -/

/-- Settles O41. -/
theorem enginePlacement : Obligations.EnginePlacement := by
  intro s ahead behind b hb hahead hone hbound hroom
  have hpl : s.placeOf b.src = some .engine := by rw [State.placeOf_engineBound hbound, if_pos hroom]
  have hplace : s.place = s.placeEngine b.src := by rw [State.place, State.firstPlaceable_eq hb hahead hpl]
  refine ⟨s.placeEngine b.src, by rw [exec_placement, hplace], ?_, ?_, fun m hm => ?_⟩
  · rw [← State.dropEntry_backlog_split hb hone]
    rfl
  · exact State.source_setSource_self (s.dropEntry b.src) b.src _
  · exact State.source_setSource_ne (s.dropEntry b.src) b.src m _ hm

/-- A placement to hosts changes the source table, the backlog and the offer queues alone (R61). -/
theorem State.placeHosts_frame (b : BacklogEntry) (ports : List Port) : s.placeHosts b ports =
    { s with sources := (s.placeHosts b ports).sources, backlog := (s.dropEntry b.src).backlog,
             offers := (s.placeHosts b ports).offers } := by
  unfold State.placeHosts
  dsimp only
  rw [State.foldl_putOffer_eq]
  rfl

/-- Each chosen queue takes the offer (R61, R71, R72). -/
theorem State.queue_placeHosts (b : BacklogEntry) {ports : List Port} (hnd : ports.Nodup) (q : Port) :
    (s.placeHosts b ports).queue q =
      if q ∈ ports then insertOffer (placementOffer b (s.source b.src) ports) (s.queue q) else s.queue q :=
  State.queue_foldl_putOffer hnd _ q

/-- Settles O42. -/
theorem hostPlacement : Obligations.HostPlacement := by
  intro s ahead behind b hb hahead hone hbound hne e ports o
  have hpl : s.placeOf b.src = some (.hosts ports) := by rw [State.placeOf_hostBound hbound, if_neg hne]
  have hplace : s.place = (s.placeHosts b ports).updateAttention := by
    rw [State.place, State.firstPlaceable_eq hb hahead hpl]
  have ho : placementOffer b e ports = o := by simp [placementOffer, o, beq_eq_decide]
  have hnd : ports.Nodup := (State.hostPlace_spec e).2.1
  refine ⟨(s.placeHosts b ports).updateAttention, by rw [exec_placement, hplace], ?_, ⟨?_, fun m hm => ?_⟩, fun q => ?_,
    attnOk_updateAttention⟩
  · rw [← State.dropEntry_backlog_split hb hone]
    exact congrArg (fun x : State => { x with attn := (s.placeHosts b ports).updateAttention.attn })
      (State.placeHosts_frame b ports)
  · rw [State.updateAttention_source, State.source_placeHosts, State.source_setSource_self]
    rfl
  · rw [State.updateAttention_source, State.source_placeHosts, State.source_setSource_ne s b.src m _ hm]
  · rw [State.updateAttention_queue, State.queue_placeHosts b hnd, ho]
    rfl

end Sys2Proof.Machine
end

section
namespace Sys2Proof.Machine

variable {s t : State}

/-! ### What keeps the class bands -/

/-- The backlog and every offer queue stand in class bands, the band of class 7 first (R46, R72). -/
structure Banded (s : State) : Prop where
  backlog : s.backlog.Pairwise fun a b => b.cls ≤ a.cls
  queue   : ∀ p, (s.queue p).Pairwise fun a b => b.cls ≤ a.cls

namespace Banded

/-- What differs is neither the backlog nor the offer queues. -/
theorem of_lists (h : Banded s) (hb : t.backlog = s.backlog) (ho : t.offers = s.offers) : Banded t :=
  ⟨hb ▸ h.backlog, fun p => by rw [State.queue, ho]; exact h.queue p⟩

/-- With the backlog and the offer queues empty there is nothing to order. -/
theorem of_empty (hb : s.backlog = []) (hq : ∀ p, s.queue p = []) : Banded s :=
  ⟨by simp [hb], fun p => by simp [hq p]⟩

theorem withBacklog (h : Banded s) {b : List BacklogEntry} (hb : b.Pairwise fun a b => b.cls ≤ a.cls) :
    Banded { s with backlog := b } := ⟨hb, h.queue⟩

theorem setSource (h : Banded s) (n : SourceId) (e : SourceEntry) : Banded (s.setSource n e) := h.of_lists rfl rfl

theorem modSource (h : Banded s) (n : SourceId) (f : SourceEntry → SourceEntry) : Banded (s.modSource n f) :=
  h.of_lists rfl rfl

theorem setResult (h : Banded s) (p : Port) (c : Result) : Banded (s.setResult p c) := h.of_lists rfl rfl

theorem updateAttention (h : Banded s) : Banded s.updateAttention := h.of_lists rfl rfl

theorem handRecord (h : Banded s) (r : FaultRecord) : Banded (s.handRecord r) :=
  h.of_lists (State.handRecord_backlog s r) (State.handRecord_offers s r)

theorem removeClaim (h : Banded s) (n : SourceId) (p : Port) : Banded (s.removeClaim n p) :=
  h.of_lists (State.removeClaim_backlog s n p) (State.removeClaim_offers s n p)

/-! #### Out of the lists -/

theorem dropEntry (h : Banded s) (n : SourceId) : Banded (s.dropEntry n) :=
  h.withBacklog (h.backlog.filter _)

theorem withdraw (h : Banded s) (which : Port → Bool) (n : SourceId) : Banded (s.withdraw which n) :=
  ⟨h.backlog, fun p => by
    rw [State.queue_withdraw]
    split
    · exact (h.queue p).filter _
    · exact h.queue p⟩

theorem setQueue (h : Banded s) (p : Port) {q : List Offer} (hq : q.Pairwise fun a b => b.cls ≤ a.cls) :
    Banded (s.setQueue p q) :=
  ⟨h.backlog, fun r => by
    rw [State.queue_setQueue]
    split
    · exact hq
    · exact h.queue r⟩

/-- The offers of a port are withdrawn together (R77). -/
theorem clearQueue (h : Banded s) {p : Port} (hb : t.backlog = s.backlog) (ho : t.offers = s.offers.set p []) :
    Banded t := (h.setQueue p List.Pairwise.nil).of_lists hb ho

/-! #### Into the lists -/

theorem putOffer (h : Banded s) (p : Port) (o : Offer) : Banded (s.putOffer p o) :=
  h.setQueue p (insertOffer_ordered o (h.queue p))

theorem foldl_putOffer (h : Banded s) (ports : List Port) (o : Offer) :
    Banded (ports.foldl (fun s p => s.putOffer p o) s) := by
  induction ports generalizing s with
  | nil => exact h
  | cons p ps ih => exact ih (h.putOffer p o)

theorem enterBack (h : Banded s) (n : SourceId) : Banded (s.enterBack n) :=
  (h.withBacklog (insertBack_ordered _ (s.entryFor n) _ h.backlog)).of_lists (State.enterBack_backlog s n)
    (State.enterBack_offers s n)

theorem enterFront (h : Banded s) (ns : List SourceId) : Banded (s.enterFront ns) :=
  (h.withBacklog (State.foldr_insertFront_ordered ns h.backlog)).of_lists (State.enterFront_backlog s ns)
    (State.enterFront_offers s ns)

theorem latch (h : Banded s) (n : SourceId) : Banded (s.latch n) := (h.modSource n _).enterBack n

theorem endOccurrence (h : Banded s) (n : SourceId) : Banded (s.endOccurrence n) := by
  rcases s.endOccurrence_cases n with ⟨-, heq⟩ | ⟨-, -, heq⟩ | ⟨-, -, -, heq⟩ | ⟨-, -, -, -, heq⟩ <;> rw [heq]
  · exact h.setSource n _
  · exact (h.setSource n _).enterBack n
  · exact h.latch n
  · exact h.setSource n _

/-! #### Lines, time and resets -/

theorem latchAtRelease (h : Banded s) (n : SourceId) : Banded (s.latchAtRelease n) := by
  rw [State.latchAtRelease_eq]
  split
  · exact h.latch n
  · exact h

theorem foldl_latchAtRelease (h : Banded s) (ns : List SourceId) : Banded (ns.foldl State.latchAtRelease s) := by
  induction ns generalizing s with
  | nil => exact h
  | cons n ns ih => exact ih (h.latchAtRelease n)

theorem releaseReset (h : Banded s) (note : ResetNote) (levels : Levels) : Banded (s.releaseReset note levels) := by
  have hlet : Banded (State.letThrough
      { s with currentSample := levels, previousSample := levels, prescale := 0, resetNote := none }) :=
    h.of_lists rfl rfl
  exact ((hlet.handRecord (partResetRecord note)).foldl_latchAtRelease lineSources).updateAttention

theorem resetPort (h : Banded s) (p : Port) : Banded (s.resetPort p) := by
  have hclear : Banded (s.clearPort p) := h.clearQueue rfl rfl
  unfold State.resetPort
  refine updateAttention (enterFront ?_ _)
  split
  · exact hclear
  · exact hclear.handRecord _

theorem assertPortReset (h : Banded s) (p : Port) : Banded (s.assertPortReset p) := by
  have hset : Banded (s.setPortReset p true) := h.of_lists rfl rfl
  unfold State.assertPortReset
  split
  · exact h
  split
  · exact hset
  · exact hset.resetPort p

theorem judgeChange (h : Banded s) (n : SourceId) (level : Bool) : Banded (s.judgeChange n level) := by
  have hedge : Banded (s.qualifyingEdge n) := by
    unfold State.qualifyingEdge
    split
    · exact h.latch n
    · exact h.modSource n _
  have hlevel : Banded (s.activation n) := by
    unfold State.activation
    split
    · exact h.latch n
    · exact h
  unfold State.judgeChange
  split
  case isFalse => exact h
  split
  case h_2 => exact h
  split
  · exact hedge
  split
  · exact hlevel
  · exact h

theorem clockCycle (h : Banded s) : Banded s.clockCycle := by
  unfold State.clockCycle
  split
  · exact h
  split
  · exact h.of_lists rfl rfl
  split
  · exact h
  · exact h.of_lists rfl rfl

theorem expire (h : Banded s) (n : SourceId) (c : Claim) : Banded (s.expire n c) := by
  have hexp := (((h.removeClaim n c.port).setSource n ((s.source n).expired c)).handRecord
    (claimExpiredRecord n c ((s.source n).expired c).revocations (!((s.source n).expired c).route.enable)))
  unfold State.expire
  dsimp only
  split
  · exact hexp.setSource n _
  split
  · exact (hexp.setSource n _).handRecord _
  · exact (hexp.setSource n _).enterFront [n]

/-! #### Dispatch and the engine -/

theorem place (h : Banded s) : Banded s.place := by
  unfold State.place
  split
  · rename_i b _
    exact (h.dropEntry b.src).of_lists rfl rfl
  · rename_i b ports _
    exact (((h.dropEntry b.src).modSource b.src _).foldl_putOffer ports _).updateAttention
  · exact h

theorem startService (h : Banded s) : Banded s.startService := by
  unfold State.startService
  split
  case h_2 => exact h
  split
  · exact h.of_lists rfl rfl
  · exact h

theorem closeService (h : Banded s) (n : SourceId) (addr : Option Word) (rs : List FaultRecord) :
    Banded (s.closeService n addr rs) :=
  h.of_lists (State.staysOut_closeService n addr rs).backlog (State.closeService_offBooks n addr rs).offers

theorem endService (h : Banded s) (n : SourceId) (addr : Option Word) (rs : List FaultRecord)
    (flag : Option EngineFlag) : Banded (s.endService n addr rs flag) := by
  have hclose := h.closeService n addr rs
  cases flag with
  | none => exact hclose.endOccurrence n
  | some f =>
    rw [State.endService_flag]
    split
    · exact (hclose.setSource n _).enterBack n
    · exact hclose.setSource n _

theorem setPhase (h : Banded s) (v : Service) (ph : Phase) : Banded (s.setPhase v ph) := h.of_lists rfl rfl

theorem moveError (h : Banded s) (v : Service) (w : Work) (ph : BusPhase) : Banded (s.moveError v w ph) :=
  (h.handRecord _).setPhase _ _

theorem fetchAnswer (h : Banded s) (a : ReadAnswer) : Banded (s.fetchAnswer a) := by
  unfold State.fetchAnswer
  split
  · exact h
  rename_i v _
  split
  · exact h.setPhase v _
  · exact h.setPhase v _
  · exact h.setPhase v _
  · unfold State.fetchDone
    split
    · exact h.endService _ _ _ _
    split
    · exact h.setPhase v _
    · exact h.endService _ _ _ _
  · exact h.endService _ _ _ _
  · exact h.endService _ _ _ _
  · exact h.endService _ _ _ _
  · exact h.endService _ _ _ _
  · exact h
  · exact h
  · exact h

theorem unitReadAnswer (h : Banded s) (a : ReadAnswer) : Banded (s.unitReadAnswer a) := by
  unfold State.unitReadAnswer
  split
  · exact h
  split
  case h_2 => exact h
  split
  · exact h.setPhase _ _
  · exact h.moveError _ _ _

theorem unitWriteAnswer (h : Banded s) (a : WriteAnswer) : Banded (s.unitWriteAnswer a) := by
  unfold State.unitWriteAnswer
  split
  · exact h
  split
  case h_2 => exact h
  split
  · unfold State.unitDone
    split <;> exact h.setPhase _ _
  · exact h.moveError _ _ _

theorem writebackAnswer (h : Banded s) (a : WriteAnswer) : Banded (s.writebackAnswer a) := by
  unfold State.writebackAnswer
  split
  · exact h
  split
  case h_2 => exact h
  split
  · exact h.setPhase _ _
  · exact h.setPhase _ _
  · unfold State.endWriteback
    split
    · exact h.endService _ _ _ _
    split <;> exact h.endService _ _ _ _
  · exact h.endService _ _ _ _

/-! #### Accesses -/

/-- An access whose taking keeps the bands. -/
theorem orHold {c : Instr} {p : Port} {take : State → State} (h : Banded s) (ht : Banded (take s))
    (hx : s.orHold c p take = .next t) : Banded t := by
  unfold State.orHold at hx
  split at hx <;> cases hx
  · exact h.of_lists rfl rfl
  · exact ht

/-- A command whose rule keeps the bands. -/
theorem command {c : Instr} {p : Port} {a : Admission} {rule : State → State × Result} (h : Banded s)
    (hr : Banded (rule s).1) (hx : s.command c p a rule = .next t) : Banded t := by
  rcases State.command_cases s c p a rule with ⟨-, heq⟩ | ⟨-, code, -, heq⟩ | ⟨-, -, heq⟩ <;> rw [heq] at hx <;> cases hx
  · exact h.of_lists rfl rfl
  · exact h.setResult p code
  · exact hr.setResult p _

theorem leavePort (h : Banded s) (p : Port) : Banded (s.leavePort p).1 := by
  have hleft : Banded (s.withdrawPort p) := h.clearQueue rfl rfl
  unfold State.leavePort
  split
  · exact (hleft.enterFront _).updateAttention
  · exact h

theorem takeLease (h : Banded s) (p : Port) : Banded (s.takeLease p).1 := by
  unfold State.takeLease
  split <;> exact h.of_lists rfl rfl

theorem dropLease (h : Banded s) (p : Port) : Banded (s.dropLease p).1 := by
  unfold State.dropLease
  split <;> exact h.of_lists rfl rfl

theorem writeStaging0 (h : Banded s) (p : Port) (w : Word) : Banded (s.writeStaging0 p w).1 := by
  unfold State.writeStaging0
  split <;> exact h.of_lists rfl rfl

theorem writeFloor (h : Banded s) (p : Port) (v : BitVec 4) : Banded (s.writeFloor p v).1 := by
  unfold State.writeFloor
  split <;> exact h.of_lists rfl rfl

theorem writeDivider (h : Banded s) (v : Word) : Banded (s.writeDivider v).1 := by
  unfold State.writeDivider
  split <;> exact h.of_lists rfl rfl

theorem writeLimit (h : Banded s) (i : Fin 4) (v : Word) : Banded (s.writeLimit i v).1 := by
  unfold State.writeLimit
  split <;> exact h.of_lists rfl rfl

theorem abortService (h : Banded s) : Banded s.abortService.1 := by
  unfold State.abortService
  split <;> exact h.of_lists rfl rfl

theorem commitRoute (h : Banded s) (p : Port) : Banded (s.commitRoute p).1 := by
  unfold State.commitRoute
  dsimp only
  split
  · exact h
  split
  · exact h
  · refine updateAttention ?_
    split
    · exact (h.modSource _ _).latch _
    · exact h.modSource _ _

theorem disableSource (h : Banded s) (n : SourceId) : Banded (s.disableSource n).1 := by
  have hoff := h.modSource n fun e => { e with route := { e.route with enable := false } }
  unfold State.disableSource
  refine updateAttention ?_
  dsimp only
  split
  · exact hoff
  · exact hoff.modSource n _
  · exact hoff.modSource n _
  · exact (hoff.dropEntry n).modSource n _
  · exact (hoff.withdraw _ n).modSource n _
  · exact hoff.of_lists rfl rfl
  · exact hoff.modSource n _
  · exact hoff.modSource n _

theorem resumeSource (h : Banded s) (n : SourceId) : Banded (s.resumeSource n).1 := by
  unfold State.resumeSource
  split
  · exact ((h.modSource n _).enterFront [n]).updateAttention
  · exact h

theorem postPayload (h : Banded s) (n : SourceId) (d : Payload) : Banded (s.postPayload n d).1 := by
  have hpost := h.modSource n fun e => { e with payloads := e.payloads ++ [d] }
  unfold State.postPayload
  split
  · exact h
  split
  · exact h
  split
  · exact h
  dsimp only
  split
  · exact (hpost.latch n).updateAttention
  · exact hpost.updateAttention

theorem discardHead (h : Banded s) (n : SourceId) : Banded (s.discardHead n) := by
  have htail := h.modSource n fun e => { e with payloads := e.payloads.tail }
  unfold State.discardHead
  dsimp only
  split
  · exact htail.modSource n _
  · exact htail.latch n

theorem unpostSource (h : Banded s) (n : SourceId) : Banded (s.unpostSource n).1 := by
  unfold State.unpostSource
  split
  · exact h
  split
  · exact h
  split
  · exact ((h.dropEntry n).discardHead n).updateAttention
  · exact ((h.withdraw _ n).discardHead n).updateAttention
  · split <;> exact h.of_lists rfl rfl
  · split <;> exact h.of_lists rfl rfl
  · exact h
  · exact h
  · exact h
  · exact h

theorem claimRead (h : Banded s) (p : Port) : Banded (s.claimRead p) := by
  unfold State.claimRead
  split
  · exact h.of_lists rfl rfl
  · exact h.of_lists rfl rfl
  split
  · exact h.of_lists rfl rfl
  rename_i o rest hq
  split
  · exact h.of_lists rfl rfl
  · have hrest := (List.pairwise_cons.mp (hq ▸ h.queue p)).2
    exact ((h.setQueue p hrest).withdraw (fun q => q != p) o.src).of_lists rfl rfl

theorem faultRead (h : Banded s) (p : Port) : Banded (s.faultRead p) := by
  unfold State.faultRead
  split
  · exact h.of_lists rfl rfl
  split <;> exact h.of_lists rfl rfl

theorem matchClaim {p : Port} {n : SourceId} {tag : Tag} {rule : State → Claim → State × Result} (h : Banded s)
    (hr : ∀ c, Banded (rule s c).1) : Banded (s.matchClaim p n tag rule).1 := by
  unfold State.matchClaim
  split
  · exact h
  split
  · exact h
  split
  · exact h
  · exact hr _

theorem completeClaim (h : Banded s) (n : SourceId) (c : Claim) : Banded (State.completeClaim n s c).1 :=
  ((h.removeClaim n c.port).endOccurrence n).updateAttention

theorem giveBack (h : Banded s) (n : SourceId) (c : Claim) : Banded (State.giveBack n s c).1 := by
  have hgone := h.removeClaim n c.port
  unfold State.giveBack
  refine updateAttention ?_
  split
  · exact (hgone.setSource n _).enterFront [n]
  · exact hgone.setSource n _

theorem extendClaim (h : Banded s) (n : SourceId) (c : Claim) : Banded (State.extendClaim n s c).1 := by
  unfold State.extendClaim
  split
  · exact h
  split <;> exact h.of_lists rfl rfl

/-! #### Every command -/

theorem exec {c : Instr} (h : Banded s) (hx : exec c s = .next t) : Banded t := by
  cases c with
  | powerOn levels =>
    rw [exec_powerOn] at hx
    obtain rfl := Host.Outcome.next.inj hx
    exact of_empty rfl fun p => State.queue_powerOn levels p
  | partReset =>
    rw [exec_partReset] at hx
    cases hx
    split
    · exact h
    · exact of_empty rfl State.queue_assertReset
  | resetRelease levels =>
    rw [exec_resetRelease, execResetRelease] at hx
    split at hx <;> obtain rfl := Host.Outcome.next.inj hx
    · exact h.releaseReset _ levels
    · exact h
  | portReset prst =>
    rw [exec_portReset] at hx
    cases hx
    split
    · exact h.assertPortReset prst.port
    · exact h.of_lists rfl rfl
  | lineChange l level =>
    rw [exec_lineChange] at hx
    cases hx
    have hsample : Banded (s.sampleLine l level) := h.of_lists rfl rfl
    split
    · exact h
    split
    · exact hsample
    · exact (hsample.judgeChange (lineSource l) level).updateAttention
  | placement => cases hx; exact h.place
  | tick =>
    rw [exec_tick] at hx
    cases hx
    split
    · exact h
    · exact h.of_lists rfl rfl
  | expiry n =>
    rw [exec_expiry, execExpiry] at hx
    split at hx <;> obtain rfl := Host.Outcome.next.inj hx
    · split
      · exact (h.expire n _).updateAttention
      · exact h
    · exact h
  | serviceStart => cases hx; exact h.startService
  | fetchAnswer a => cases hx; exact (h.fetchAnswer a).updateAttention
  | unitReadAnswer a => cases hx; exact (h.unitReadAnswer a).updateAttention
  | unitWriteAnswer a => cases hx; exact (h.unitWriteAnswer a).updateAttention
  | writebackAnswer a => cases hx; exact (h.writebackAnswer a).updateAttention
  | join p => exact h.command (h.of_lists rfl rfl) (exec_join s p ▸ hx)
  | leave p => exact h.command (h.leavePort p) (exec_leave s p ▸ hx)
  | leaseTake p => exact h.command (h.takeLease p) (exec_leaseTake s p ▸ hx)
  | leaseDrop p => exact h.command (h.dropLease p) (exec_leaseDrop s p ▸ hx)
  | routeSelect p n => exact h.command (h.of_lists rfl rfl) (exec_routeSelect s p n ▸ hx)
  | staging0 p w => exact h.command (h.writeStaging0 p w) (exec_staging0 s p w ▸ hx)
  | staging1 p w => exact h.command (h.of_lists rfl rfl) (exec_staging1 s p w ▸ hx)
  | routeCommit p => exact h.command (h.commitRoute p) (exec_routeCommit s p ▸ hx)
  | disable p n => exact h.command (h.disableSource n) (exec_disable s p n ▸ hx)
  | resume p n => exact h.command (h.resumeSource n) (exec_resume s p n ▸ hx)
  | post p n d => exact h.command (h.postPayload n d) (exec_post s p n d ▸ hx)
  | unpost p n => exact h.command (h.unpostSource n) (exec_unpost s p n ▸ hx)
  | claim p => exact h.orHold (h.claimRead p) (exec_claim s p ▸ hx)
  | complete p n tag => exact h.command (h.matchClaim (h.completeClaim n)) (exec_complete s p n tag ▸ hx)
  | returnClaim p n tag => exact h.command (h.matchClaim (h.giveBack n)) (exec_returnClaim s p n tag ▸ hx)
  | extend p n tag => exact h.command (h.matchClaim (h.extendClaim n)) (exec_extend s p n tag ▸ hx)
  | floor p v => exact h.command (h.writeFloor p v) (exec_floor s p v ▸ hx)
  | faultWatch p on => exact h.command (h.of_lists rfl rfl) (exec_faultWatch s p on ▸ hx)
  | tickDivider p v => exact h.command (h.writeDivider v) (exec_tickDivider s p v ▸ hx)
  | limit p i v => exact h.command (h.writeLimit i v) (exec_limit s p i v ▸ hx)
  | run p => exact h.command (h.of_lists rfl rfl) (exec_run s p ▸ hx)
  | halt p => exact h.command (h.of_lists rfl rfl) (exec_halt s p ▸ hx)
  | abort p => exact h.command h.abortService (exec_abort s p ▸ hx)
  | fault p => exact h.orHold (h.faultRead p) (exec_fault s p ▸ hx)
  | narrowTakeRead p reg enables => exact h.orHold (h.of_lists rfl rfl) (exec_narrowTakeRead s p reg enables ▸ hx)
  | undefinedAccess p a =>
    rw [exec_undefinedAccess] at hx
    split at hx
    · refine h.orHold ?_ hx
      split
      · exact h
      · exact h.of_lists rfl rfl
    · cases hx

/-- A step is a clock cycle or the front command on the rest of the queue. -/
theorem step (h : Banded s) (hx : step s = .next t) : Banded t := by
  unfold Machine.step at hx
  split at hx
  · cases hx
    exact h.clockCycle
  · rename_i c rest _
    have hrest : Banded { s with pending := rest } := h.of_lists rfl rfl
    exact hrest.exec hx

end Banded

/-- Settles O7, command by command: entries leave a list without reordering it, and enter it in their band. -/
theorem bandsStayInOrder : Obligations.BandsStayInOrder := fun _ _ hb hq hx =>
  have ht := Banded.step ⟨hb, hq⟩ hx
  ⟨ht.backlog, ht.queue⟩

end Sys2Proof.Machine
end

section
namespace Sys2Proof.Machine

variable {s t : State}

/-! ### What keeps the attention outputs on their conditions -/

/-- At its default settings a port is OFFLINE, and no part of the attention condition holds there (R85). -/
theorem attnOk_of_default (hattn : ∀ p : Port, s.attn[p] = false) (hport : ∀ p, s.port p = .default) : AttnOk s :=
  attnOk_iff.mpr fun p => by
    rw [hattn, eq_comm, Bool.eq_false_iff, Ne, State.attention_iff, hport p]
    simp [PortRegs.default]

namespace AttnOk

/-- What differs is neither an output nor a table that the conditions read. -/
theorem of_tables (h : AttnOk s) (hattn : t.attn = s.attn) (hports : t.ports = s.ports)
    (hoffers : t.offers = s.offers) (hfaults : t.faults = s.faults) : AttnOk t := by
  refine h.congr hattn (fun p => ?_) (fun p => ?_) hfaults
  · simp only [State.port, hports, and_self]
  · simp only [State.queue, hoffers]

/-- A port's settings change, but for its state, its class floor and its fault watch. -/
theorem modPort (h : AttnOk s) (p : Port) {f : PortRegs → PortRegs}
    (hf : ∀ r, (f r).state = r.state ∧ (f r).floor = r.floor ∧ (f r).faultWatch = r.faultWatch) :
    AttnOk (s.modPort p f) := by
  refine h.congr rfl (fun q => ?_) (fun _ => rfl) rfl
  rw [State.port_modPort]
  split
  · rename_i hpq
    exact hpq ▸ hf (s.port p)
  · exact ⟨rfl, rfl, rfl⟩

theorem returnWord (h : AttnOk s) (p : Port) (w : Word) : AttnOk (s.returnWord p w) := h.of_tables rfl rfl rfl rfl

/-! #### Accesses -/

/-- An access whose taking keeps the outputs on their conditions. -/
theorem orHold {c : Instr} {p : Port} {take : State → State} (h : AttnOk s) (ht : AttnOk (take s))
    (hx : s.orHold c p take = .next t) : AttnOk t := by
  unfold State.orHold at hx
  split at hx <;> cases hx
  · exact h.of_tables rfl rfl rfl rfl
  · exact ht

/-- A command whose rule keeps the outputs on their conditions: the code in RESULT is read by none of them. -/
theorem command {c : Instr} {p : Port} {a : Admission} {rule : State → State × Result} (h : AttnOk s)
    (hr : AttnOk (rule s).1) (hx : s.command c p a rule = .next t) : AttnOk t := by
  refine h.orHold ?_ hx
  split
  · exact h.setResult p _
  · exact hr.setResult p _

/-- At a port that is not ONLINE a LEAVE changes nothing. -/
theorem leavePort (h : AttnOk s) (p : Port) : AttnOk (s.leavePort p).1 := by
  unfold State.leavePort
  split
  · exact attnOk_updateAttention
  · exact h

theorem takeLease (h : AttnOk s) (p : Port) : AttnOk (s.takeLease p).1 := by
  unfold State.takeLease
  split <;> exact h.of_tables rfl rfl rfl rfl

theorem dropLease (h : AttnOk s) (p : Port) : AttnOk (s.dropLease p).1 := by
  unfold State.dropLease
  split <;> exact h.of_tables rfl rfl rfl rfl

theorem selectRoute (h : AttnOk s) (p : Port) (n : SourceId) : AttnOk (s.selectRoute p n).1 :=
  h.modPort p fun _ => ⟨rfl, rfl, rfl⟩

theorem writeStaging0 (h : AttnOk s) (p : Port) (w : Word) : AttnOk (s.writeStaging0 p w).1 := by
  unfold State.writeStaging0
  split
  · exact h.modPort p fun _ => ⟨rfl, rfl, rfl⟩
  · exact h

theorem writeStaging1 (h : AttnOk s) (p : Port) (w : Word) : AttnOk (s.writeStaging1 p w).1 :=
  h.modPort p fun _ => ⟨rfl, rfl, rfl⟩

theorem writeFloor (h : AttnOk s) (p : Port) (v : BitVec 4) : AttnOk (s.writeFloor p v).1 := by
  unfold State.writeFloor
  split
  · exact attnOk_updateAttention
  · exact h

theorem writeDivider (h : AttnOk s) (v : Word) : AttnOk (s.writeDivider v).1 := by
  unfold State.writeDivider
  split <;> exact h.of_tables rfl rfl rfl rfl

theorem writeLimit (h : AttnOk s) (i : Fin 4) (v : Word) : AttnOk (s.writeLimit i v).1 := by
  unfold State.writeLimit
  split <;> exact h.of_tables rfl rfl rfl rfl

theorem abortService (h : AttnOk s) : AttnOk s.abortService.1 := by
  unfold State.abortService
  split <;> exact h.of_tables rfl rfl rfl rfl

theorem commitRoute (h : AttnOk s) (p : Port) : AttnOk (s.commitRoute p).1 := by
  unfold State.commitRoute
  dsimp only
  split
  · exact h
  split
  · exact h
  · exact attnOk_updateAttention

theorem resumeSource (h : AttnOk s) (n : SourceId) : AttnOk (s.resumeSource n).1 := by
  unfold State.resumeSource
  split
  · exact attnOk_updateAttention
  · exact h

theorem postPayload (h : AttnOk s) (n : SourceId) (d : Payload) : AttnOk (s.postPayload n d).1 := by
  unfold State.postPayload
  split
  · exact h
  split
  · exact h
  split
  · exact h
  · exact attnOk_updateAttention

/-- An UNPOST takes an offer out of the queues only while the source is OFFERED; a payload alone is in no condition. -/
theorem unpostSource (h : AttnOk s) (n : SourceId) : AttnOk (s.unpostSource n).1 := by
  unfold State.unpostSource
  split
  · exact h
  split
  · exact h
  split
  · exact attnOk_updateAttention
  · exact attnOk_updateAttention
  · split <;> exact h.of_tables rfl rfl rfl rfl
  · split <;> exact h.of_tables rfl rfl rfl rfl
  all_goals exact h

theorem answerTake (h : AttnOk s) (p : Port) (word : BitVec 4) (result : Result) :
    AttnOk (s.answerTake p word result) := (h.returnWord p _).setResult p result

theorem claimRead (h : AttnOk s) (p : Port) : AttnOk (s.claimRead p) := by
  unfold State.claimRead
  split
  · exact h.answerTake p _ _
  · exact h.answerTake p _ _
  split
  · exact h.answerTake p _ _
  split
  · exact h.answerTake p _ _
  · exact attnOk_updateAttention

theorem faultRead (h : AttnOk s) (p : Port) : AttnOk (s.faultRead p) := by
  unfold State.faultRead
  split
  · exact h.answerTake p _ _
  split
  · exact h.answerTake p _ _
  · exact attnOk_updateAttention

theorem matchClaim {p : Port} {n : SourceId} {tag : Tag} {rule : State → Claim → State × Result} (h : AttnOk s)
    (hr : ∀ c, AttnOk (rule s c).1) : AttnOk (s.matchClaim p n tag rule).1 := by
  unfold State.matchClaim
  split
  · exact h
  split
  · exact h
  split
  · exact h
  · exact hr _

/-- The timer and the renewals of a claim are in no condition. -/
theorem extendClaim (h : AttnOk s) (n : SourceId) (c : Claim) : AttnOk (State.extendClaim n s c).1 := by
  unfold State.extendClaim
  split
  · exact h
  split <;> exact h.of_tables rfl rfl rfl rfl

/-! #### Happenings that are no access -/

theorem partReset (h : AttnOk s) : AttnOk (if s.resetNote.isSome then s else s.assertReset) := by
  split
  · exact h
  · exact attnOk_of_default State.attn_assertReset State.port_assertReset

theorem assertPortReset (h : AttnOk s) (p : Port) : AttnOk (s.assertPortReset p) := by
  unfold State.assertPortReset
  split
  · exact h
  split
  · exact h.of_tables rfl rfl rfl rfl
  · exact attnOk_updateAttention

/-- A placement into the engine queue writes no offer (R54). -/
theorem place (h : AttnOk s) : AttnOk s.place := by
  unfold State.place
  split
  · exact h.of_tables rfl rfl rfl rfl
  · exact attnOk_updateAttention
  · exact h

theorem startService (h : AttnOk s) : AttnOk s.startService := by
  unfold State.startService
  split
  case h_2 => exact h
  split
  · exact h.of_tables rfl rfl rfl rfl
  · exact h

theorem takeTick (h : AttnOk s) : AttnOk s.takeTick := h.of_tables rfl rfl rfl rfl

theorem clockCycle (h : AttnOk s) : AttnOk s.clockCycle := by
  unfold State.clockCycle
  split
  · exact h
  split
  · exact h.of_tables rfl rfl rfl rfl
  split
  · exact h
  · exact h.takeTick

/-! #### Every command -/

/-- A command ends by setting the outputs to their conditions, or writes nothing that a condition reads. -/
theorem exec {c : Instr} (h : AttnOk s) (hx : exec c s = .next t) : AttnOk t := by
  cases c with
  | powerOn levels =>
    rw [exec_powerOn] at hx
    obtain rfl := Host.Outcome.next.inj hx
    exact attnOk_of_default (fun p => by simp [State.powerOn]) (State.port_powerOn levels)
  | partReset => cases hx; exact h.partReset
  | resetRelease levels =>
    rw [exec_resetRelease, execResetRelease] at hx
    split at hx <;> obtain rfl := Host.Outcome.next.inj hx
    · exact attnOk_updateAttention
    · exact h
  | portReset prst =>
    rw [exec_portReset] at hx
    cases hx
    split
    · exact h.assertPortReset prst.port
    · exact h.of_tables rfl rfl rfl rfl
  | lineChange l level =>
    rw [exec_lineChange] at hx
    cases hx
    split
    · exact h
    split
    · exact h.of_tables rfl rfl rfl rfl
    · exact attnOk_updateAttention
  | placement => cases hx; exact h.place
  | tick =>
    rw [exec_tick] at hx
    cases hx
    split
    · exact h
    · exact h.takeTick
  | expiry n =>
    rw [exec_expiry, execExpiry] at hx
    split at hx <;> obtain rfl := Host.Outcome.next.inj hx
    · split
      · exact attnOk_updateAttention
      · exact h
    · exact h
  | serviceStart => cases hx; exact h.startService
  | fetchAnswer a => cases hx; exact attnOk_updateAttention
  | unitReadAnswer a => cases hx; exact attnOk_updateAttention
  | unitWriteAnswer a => cases hx; exact attnOk_updateAttention
  | writebackAnswer a => cases hx; exact attnOk_updateAttention
  | join p => exact h.command attnOk_updateAttention (exec_join s p ▸ hx)
  | leave p => exact h.command (h.leavePort p) (exec_leave s p ▸ hx)
  | leaseTake p => exact h.command (h.takeLease p) (exec_leaseTake s p ▸ hx)
  | leaseDrop p => exact h.command (h.dropLease p) (exec_leaseDrop s p ▸ hx)
  | routeSelect p n => exact h.command (h.selectRoute p n) (exec_routeSelect s p n ▸ hx)
  | staging0 p w => exact h.command (h.writeStaging0 p w) (exec_staging0 s p w ▸ hx)
  | staging1 p w => exact h.command (h.writeStaging1 p w) (exec_staging1 s p w ▸ hx)
  | routeCommit p => exact h.command (h.commitRoute p) (exec_routeCommit s p ▸ hx)
  | disable p n => exact h.command attnOk_updateAttention (exec_disable s p n ▸ hx)
  | resume p n => exact h.command (h.resumeSource n) (exec_resume s p n ▸ hx)
  | post p n d => exact h.command (h.postPayload n d) (exec_post s p n d ▸ hx)
  | unpost p n => exact h.command (h.unpostSource n) (exec_unpost s p n ▸ hx)
  | claim p => exact h.orHold (h.claimRead p) (exec_claim s p ▸ hx)
  | complete p n tag =>
    exact h.command (h.matchClaim fun _ => attnOk_updateAttention) (exec_complete s p n tag ▸ hx)
  | returnClaim p n tag =>
    exact h.command (h.matchClaim fun _ => attnOk_updateAttention) (exec_returnClaim s p n tag ▸ hx)
  | extend p n tag => exact h.command (h.matchClaim (h.extendClaim n)) (exec_extend s p n tag ▸ hx)
  | floor p v => exact h.command (h.writeFloor p v) (exec_floor s p v ▸ hx)
  | faultWatch p on => exact h.command attnOk_updateAttention (exec_faultWatch s p on ▸ hx)
  | tickDivider p v => exact h.command (h.writeDivider v) (exec_tickDivider s p v ▸ hx)
  | limit p i v => exact h.command (h.writeLimit i v) (exec_limit s p i v ▸ hx)
  | run p => exact h.command (h.of_tables rfl rfl rfl rfl) (exec_run s p ▸ hx)
  | halt p => exact h.command (h.of_tables rfl rfl rfl rfl) (exec_halt s p ▸ hx)
  | abort p => exact h.command h.abortService (exec_abort s p ▸ hx)
  | fault p => exact h.orHold (h.faultRead p) (exec_fault s p ▸ hx)
  | narrowTakeRead p reg enables => exact h.orHold (h.returnWord p 0) (exec_narrowTakeRead s p reg enables ▸ hx)
  | undefinedAccess p a =>
    rw [exec_undefinedAccess] at hx
    split at hx
    · refine h.orHold ?_ hx
      split
      · exact h
      · exact h.returnWord p 0
    · cases hx

/-- A step is a clock cycle or the front command on the rest of the queue. -/
theorem step (h : AttnOk s) (hx : step s = .next t) : AttnOk t := by
  unfold Machine.step at hx
  split at hx
  · cases hx
    exact h.clockCycle
  · rename_i c rest _
    have hrest : AttnOk { s with pending := rest } := h.of_tables rfl rfl rfl rfl
    exact hrest.exec hx

end AttnOk

/-- Settles O6, command by command: each sets the outputs to their conditions, or leaves what the conditions read. -/
theorem attentionFollowsConditionKept : Obligations.AttentionFollowsConditionKept := fun _ _ h hx => h.step hx

end Sys2Proof.Machine
end

section
namespace Sys2Proof.Machine

variable {s t u : State}

/-! ### Words read and claim counts -/

theorem State.readWord_returnWord (p q : Port) (w : Word) :
    (s.returnWord p w).readWord[q] = if p = q then w else s.readWord[q] := by
  simp only [State.returnWord, Fin.getElem_fin, Vector.getElem_set, Fin.ext_iff]

@[simp] theorem State.readWord_returnWord_self (p : Port) (w : Word) : (s.returnWord p w).readWord[p] = w := by
  rw [State.readWord_returnWord, if_pos rfl]

theorem State.readWord_returnWord_ne {p q : Port} (h : q ≠ p) (w : Word) :
    (s.returnWord p w).readWord[q] = s.readWord[q] := by
  rw [State.readWord_returnWord, if_neg (Ne.symm h)]

/-! ### CLAIM and FAULT reads that take nothing -/

/-- A CLAIM or FAULT read at port `p` is answered with `word` and leaves `code` in RESULT; nothing else changes (R95,
R177). -/
structure TakeAnswered (s t : State) (p : Port) (word : Word) (code : Result) : Prop where
  frame  : t = { s with ports := t.ports, readWord := t.readWord }
  port   : PortBecomes s t p { s.port p with result := code }
  word   : t.readWord[p] = word
  others : ∀ q : Port, q ≠ p → t.readWord[q] = s.readWord[q]

theorem State.takeAnswered (p : Port) (word : BitVec 4) (code : Result) :
    TakeAnswered s (s.answerTake p word code) p (codeWord word) code where
  frame := rfl
  port := portBecomes_setResult (s := s) (t := s.returnWord p (codeWord word)) (fun _ => rfl) code
  word := State.readWord_returnWord_self p _
  others _ hq := State.readWord_returnWord_ne hq _

/-- An access that no reset holds is taken (R161, R162). -/
theorem State.orHold_takes {p : Port} (h : takesAccesses s p) (c : Instr) (take : State → State) :
    s.orHold c p take = .next (take s) :=
  State.orHold_taken s c p take ((State.holding_eq_false s p).mpr h)

section
variable {p : Port}

theorem State.claimRead_offline (hst : (s.port p).state = .offline) :
    s.claimRead p = s.answerTake p Result.offline.code .offline := by
  simp [State.claimRead, hst]

theorem State.claimRead_draining (hst : (s.port p).state = .draining) :
    s.claimRead p = s.answerTake p Result.notOnline.code .notOnline := by
  simp [State.claimRead, hst]

theorem State.claimRead_empty (hst : (s.port p).state = .online) (hq : s.queue p = []) :
    s.claimRead p = s.answerTake p Result.empty.code .empty := by
  simp [State.claimRead, hst, hq]

theorem State.claimRead_full (hst : (s.port p).state = .online) (hq : s.queue p ≠ []) (hfull : 8 ≤ s.claimCount p) :
    s.claimRead p = s.answerTake p slotsFullCode .full := by
  obtain ⟨o, rest, hq⟩ := List.exists_cons_of_ne_nil hq
  simp [State.claimRead, hst, hq, Config.claimRoom, hfull]

theorem State.claimRead_takes {o : Offer} {rest : List Offer} (hst : (s.port p).state = .online)
    (hq : s.queue p = o :: rest) (hroom : s.claimCount p < 8) : s.claimRead p = s.makeClaim p o rest := by
  simp [State.claimRead, hst, hq, Config.claimRoom, Nat.not_le.mpr hroom]

theorem State.faultRead_offline (hst : (s.port p).state = .offline) :
    s.faultRead p = s.answerTake p Result.offline.code .offline := if_pos hst

theorem State.faultRead_empty (hst : (s.port p).state ≠ .offline) (hf : s.faults = []) :
    s.faultRead p = s.answerTake p Result.empty.code .empty := by
  simp [State.faultRead, hst, hf, State.answerTake]

end

/-- Settles O11, by the port state in which the read finds nothing to take. -/
theorem takeReadRefusals : Obligations.TakeReadRefusals := by
  intro s p ht answered
  have hanswered {c : Instr} {take : State → State} {word : BitVec 4} {code : Result}
      (hc : exec c s = s.orHold c p take) (htake : take s = s.answerTake p word code) :
      answered c (codeWord word) code := by
    obtain ⟨frame, port, word, others⟩ := State.takeAnswered (s := s) p word code
    exact ⟨_, by rw [hc, State.orHold_takes ht, htake], frame, port, word, others⟩
  exact ⟨fun hst => ⟨hanswered (exec_claim s p) (State.claimRead_offline hst),
      hanswered (exec_fault s p) (State.faultRead_offline hst)⟩,
    fun hst => hanswered (exec_claim s p) (State.claimRead_draining hst),
    fun hst hq => hanswered (exec_claim s p) (State.claimRead_empty hst hq),
    fun hst hq hfull => hanswered (exec_claim s p) (State.claimRead_full hst hq hfull),
    fun hst hf => hanswered (exec_fault s p) (State.faultRead_empty hst hf)⟩

/-! ### The CLAIM read that takes the head offer -/

/-- The port's own queue keeps the offers behind the head; the siblings are withdrawn (R75, R93). -/
theorem State.queue_makeClaim (p q : Port) (o : Offer) (rest : List Offer) :
    (s.makeClaim p o rest).queue q = if q = p then rest else (s.queue q).filter fun x => x.src ≠ o.src := by
  have hq : (s.makeClaim p o rest).queue q = ((s.setQueue p rest).withdraw (fun q => q != p) o.src).queue q := rfl
  rw [hq, State.queue_withdraw]
  by_cases h : q = p
  · subst h; simp
  · simp [h, State.queue_setQueue_ne _ _ _ _ h, bne, beq_eq_decide]

theorem State.source_makeClaim (p : Port) (o : Offer) (rest : List Offer) (m : SourceId) :
    (s.makeClaim p o rest).source m = (s.setSource o.src ((s.source o.src).claimedNow o.src)).source m := rfl

theorem State.claimOf_makeClaim (p : Port) (o : Offer) (rest : List Offer) (m : SourceId) :
    (s.makeClaim p o rest).claimOf m = (s.setClaim o.src (some (s.newClaim p o))).claimOf m := rfl

theorem State.readWord_makeClaim (p q : Port) (o : Offer) (rest : List Offer) :
    (s.makeClaim p o rest).readWord[q] = (s.returnWord p (claimWord o.src (s.newClaim p o))).readWord[q] := rfl

/-- A claim replaces the last claim data of its port and leaves OK in RESULT (R96). -/
theorem State.portBecomes_makeClaim (p : Port) (o : Offer) (rest : List Offer) :
    PortBecomes s (s.makeClaim p o rest) p
      { s.port p with
        claimData := some ⟨o.src, (s.newClaim p o).payload, (s.newClaim p o).fold⟩, result := .ok } := by
  let u := s.modPort p fun r => { r with claimData := some ⟨o.src, (s.newClaim p o).payload, (s.newClaim p o).fold⟩ }
  have hport : ∀ q, (s.makeClaim p o rest).port q = (u.setResult p .ok).port q := fun _ => rfl
  refine ⟨?_, fun q hq => ?_⟩
  · rw [hport, State.port_setResult_self, State.port_modPort_self]
  · rw [hport, State.port_setResult_ne u p q _ hq, State.port_modPort_ne s p q _ hq]

theorem isPosted_iff (n : SourceId) : isPosted n = true ↔ 48 ≤ n.val := decide_eq_true_iff

/-- The claim that the model makes carries the fields of Table 5-2. -/
theorem State.newClaim_eq (p : Port) (o : Offer) : s.newClaim p o =
    { port := p, tag := o.tag, cls := o.cls, flags := o.flags,
      payload := if 48 ≤ o.src.val then (s.source o.src).payloads.head? else none, fold := (s.source o.src).fold,
      remaining := s.loadTimer (s.source o.src).route, renewals := 0 } := by
  simp only [State.newClaim, isPosted_iff]

theorem SourceEntry.claimedNow_eq (e : SourceEntry) (n : SourceId) : e.claimedNow n =
    { e with state := .claimed, fold := 0, payloads := if 48 ≤ n.val then e.payloads.tail else e.payloads } := by
  simp only [SourceEntry.claimedNow, isPosted_iff]

/-- Settles O27, table by table of the state that the claim leaves. -/
theorem claimTakesHeadOffer : Obligations.ClaimTakesHeadOffer := by
  intro s p o rest ht hon hq hroom e limit payload c
  have hx := State.orHold_takes ht (.claim p) (State.claimRead p)
  rw [← exec_claim, State.claimRead_takes hon hq hroom] at hx
  have hc : s.newClaim p o = c := State.newClaim_eq p o
  have hport := State.portBecomes_makeClaim (s := s) p o rest
  rw [hc] at hport
  refine ⟨_, hx, rfl, ?_, fun q hne => ?_, ⟨?_, fun m hm => ?_⟩, ⟨?_, fun m hm => ?_⟩, hport, ?_, fun q hne => ?_,
    attnOk_updateAttention⟩
  · rw [State.queue_makeClaim, if_pos rfl]
  · rw [State.queue_makeClaim, if_neg hne]
  · rw [State.claimOf_makeClaim, State.claimOf_setClaim_self, hc]
  · rw [State.claimOf_makeClaim, State.claimOf_setClaim_ne s o.src m _ hm]
  · rw [State.source_makeClaim, State.source_setSource_self, SourceEntry.claimedNow_eq]
  · rw [State.source_makeClaim, State.source_setSource_ne s o.src m _ hm]
  · rw [State.readWord_makeClaim, State.readWord_returnWord_self, hc]
    rfl
  · rw [State.readWord_makeClaim, State.readWord_returnWord_ne hne]

end Sys2Proof.Machine
end

section
namespace Sys2Proof.Machine

variable {s t u : State} {p : Port} {n : SourceId} {c : Claim} {tag : Tag} {rule : State → Claim → State × Result}

/-! ### COMPLETE, RETURN and EXTEND against the claim table -/

theorem State.matchClaim_stale (h : ∀ c, s.claimOf n = some c → c.port ≠ p) :
    s.matchClaim p n tag rule = (s, .stale) := by
  unfold State.matchClaim
  split
  · rfl
  · next c hc => rw [if_pos (h c hc)]

theorem State.matchClaim_mismatch (hc : s.claimOf n = some c) (hp : c.port = p) (htag : c.tag ≠ tag) :
    s.matchClaim p n tag rule = (s, .mismatch) := by
  simp [State.matchClaim, hc, hp, htag]

theorem State.matchClaim_matches (hc : s.claimOf n = some c) (hp : c.port = p) :
    s.matchClaim p n c.tag rule = rule s c := by
  simp [State.matchClaim, hc, hp]

/-- COMPLETE, RETURN and EXTEND are one command, but for the rule that they apply to the claim they match (R99). -/
theorem exec_matchClaim {cmd : Instr} (h : cmd ∈ [Instr.complete p n tag, .returnClaim p n tag, .extend p n tag]) :
    ∃ rule, exec cmd s = s.command cmd p .notOffline (State.matchClaim p n tag rule) := by
  simp only [List.mem_cons, List.not_mem_nil, or_false] at h
  rcases h with rfl | rfl | rfl
  · exact ⟨_, exec_complete s p n tag⟩
  · exact ⟨_, exec_returnClaim s p n tag⟩
  · exact ⟨_, exec_extend s p n tag⟩

/-- A command on the claim that it matches leaves what its rule makes of the claim (R99). -/
theorem State.command_matchClaim {cmd : Instr} (ht : takesAccesses s p) (hst : (s.port p).state ≠ .offline)
    (hc : s.claimOf n = some c) (hp : c.port = p) :
    s.command cmd p .notOffline (State.matchClaim p n c.tag rule) = .next ((rule s c).1.setResult p (rule s c).2) := by
  rw [State.command_taken ht ((State.refusal_none s .notOffline p).mpr hst), State.matchClaim_matches hc hp]

/-- Settles O31: whichever rule the command has, it is not reached. -/
theorem unmatchedCommandsChangeNothing : Obligations.UnmatchedCommandsChangeNothing := by
  intro s p n tag cmd ht hst hcmd
  obtain ⟨rule, hx⟩ := exec_matchClaim (s := s) hcmd
  have ha := (State.refusal_none s .notOffline p).mpr hst
  rw [hx]
  exact ⟨fun h => State.command_answers ht ha (State.matchClaim_stale h),
    fun c hc hp htag => State.command_answers ht ha (State.matchClaim_mismatch hc hp htag)⟩

/-! ### EXTEND -/

theorem State.extendClaim_untimed (h : c.remaining = none) : s.extendClaim n c = (s, .ok) := if_pos h

theorem State.extendClaim_limit (h : c.remaining ≠ none) (hk : c.renewals = 3) : s.extendClaim n c = (s, .limit) := by
  simp [State.extendClaim, h, hk]

theorem State.extendClaim_restarts (h : c.remaining ≠ none) (hk : c.renewals ≠ 3) : s.extendClaim n c =
    (s.setClaim n (some { c with remaining := s.loadTimer (s.source n).route, renewals := c.renewals + 1 }), .ok) := by
  simp [State.extendClaim, h, hk]

/-- Below the third renewal the count does not wrap. -/
theorem renewals_add_one {k : Fin 4} (h : k ≠ 3) : (k + 1).val = k.val + 1 := by omega

/-- Settles O30, by the timer and the renewals of the claim. -/
theorem extendRestartsTimer : Obligations.ExtendRestartsTimer := by
  intro s p n c ht hst hc hp limit
  have hx : exec (.extend p n c.tag) s = .next ((s.extendClaim n c).1.setResult p (s.extendClaim n c).2) :=
    State.command_matchClaim ht hst hc hp
  refine ⟨fun hr => ?_, fun hr hk => ?_, fun hr hk => ?_⟩
  · rw [State.extendClaim_untimed hr] at hx
    exact ⟨_, hx, State.onlyResult_setResult p .ok⟩
  · rw [State.extendClaim_limit hr hk] at hx
    exact ⟨_, hx, State.onlyResult_setResult p .limit⟩
  · rw [State.extendClaim_restarts hr hk] at hx
    exact ⟨_, c.renewals + 1, hx, rfl, renewals_add_one hk,
      ⟨State.claimOf_setClaim_self s n _, fun m hm => State.claimOf_setClaim_ne s n m _ hm⟩,
      portBecomes_setResult (s := s) (t := s.setClaim n _) (fun _ => rfl) .ok⟩

/-! ### The end of a claim by its holder -/

/-- A DRAINING port goes to OFFLINE with its last claim, and stays as it is otherwise (R103, R158). -/
theorem State.portBecomes_removeClaim (n : SourceId) (p : Port) :
    PortBecomes s (s.removeClaim n p) p { s.port p with state := stateWithoutClaim s n p } := by
  have hlast : (s.setClaim n none).claimCount p = 0 ↔ ∀ m, m ≠ n → s.holds p m = false := by
    rw [State.claimCount_eq_zero]
    refine forall_congr' fun m => ?_
    by_cases hm : m = n
    · subst hm; simp [State.holds]
    · simp [hm, State.holds, State.claimOf_setClaim_ne s n m none hm]
  unfold State.removeClaim stateWithoutClaim
  dsimp only
  simp only [Bool.and_eq_true, beq_iff_eq, State.setClaim_port, hlast]
  split
  · exact ⟨by simp, fun q hq => by simp [State.port_modPort_ne _ _ _ _ hq]⟩
  · exact ⟨rfl, fun _ _ => rfl⟩

theorem State.claimBecomes_removeClaim (n : SourceId) (p : Port) : ClaimBecomes s (s.removeClaim n p) n none :=
  ⟨by rw [State.claimOf_removeClaim, if_pos rfl],
    fun m hm => by rw [State.claimOf_removeClaim, if_neg (Ne.symm hm)]⟩

/-- The removal of a claim writes the claim table and the port settings alone. -/
theorem State.removeClaim_frame (n : SourceId) (p : Port) : s.removeClaim n p =
    { s with claims := (s.removeClaim n p).claims, ports := (s.removeClaim n p).ports } := by
  unfold State.removeClaim
  dsimp only
  split <;> rfl

theorem State.staysOut_removeClaim (n : SourceId) (p : Port) : StaysOut s (s.removeClaim n p) n (s.source n) [] := by
  rw [State.removeClaim_frame]
  exact ⟨rfl, ⟨rfl, fun _ _ => rfl⟩, ⟨rfl, rfl⟩⟩

theorem OffBooks.claims (h : OffBooks s t) : t.claims = s.claims := by rw [h]

/-- What COMPLETE and RETURN of a claim of source `n` have in common: the claim is removed, its port may end its draining,
and the books alone are written beside (R103, R158). -/
structure ClaimGivenUp (s t : State) (p : Port) (n : SourceId) : Prop where
  frame     : t = { s with sources := t.sources, backlog := t.backlog, claims := t.claims, ports := t.ports,
                           faults := t.faults, dropped := t.dropped, attn := t.attn }
  claim     : ClaimBecomes s t n none
  port      : PortBecomes s t p { s.port p with state := stateWithoutClaim s n p, result := .ok }
  attention : AttnOk t

theorem State.claimGivenUp (h : OffBooks (s.removeClaim n p) u) :
    ClaimGivenUp s (u.updateAttention.setResult p .ok) p n := by
  let t := u.updateAttention.setResult p .ok
  have hclaims : t.claims = (s.removeClaim n p).claims := h.claims
  have hclaim : ∀ m, t.claimOf m = (s.removeClaim n p).claimOf m := fun m => congrArg (·[m]) hclaims
  have hport := State.portBecomes_removeClaim (s := s) n p
  refine ⟨?_, ⟨?_, fun m hm => ?_⟩, ⟨?_, fun q hq => ?_⟩, attnOk_commandEnd p .ok⟩
  · calc t = { s.removeClaim n p with sources := t.sources, backlog := t.backlog, ports := t.ports, faults := t.faults,
                                      dropped := t.dropped, attn := t.attn } :=
          (h.trans OffBooks.updateAttention).setResult p .ok
      _ = { s with sources := t.sources, backlog := t.backlog, claims := (s.removeClaim n p).claims, ports := t.ports,
                   faults := t.faults, dropped := t.dropped, attn := t.attn } :=
          congrArg (fun x : State => { x with sources := t.sources, backlog := t.backlog, ports := t.ports,
                                              faults := t.faults, dropped := t.dropped, attn := t.attn })
            (State.removeClaim_frame n p)
      _ = _ := by rw [← hclaims]
  · rw [hclaim]; exact (State.claimBecomes_removeClaim n p).claim
  · rw [hclaim]; exact (State.claimBecomes_removeClaim n p).others m hm
  · rw [State.port_setResult_self, State.updateAttention_port, h.port, hport.port]
  · rw [State.port_setResult_ne _ p q _ hq, State.updateAttention_port, h.port, hport.others q hq]

/-- Settles O28: the claim is removed, then R11 decides. -/
theorem completeEndsOccurrence : Obligations.CompleteEndsOccurrence := by
  intro s p n c ht hst hc hp
  subst hp
  have hx : exec (.complete c.port n c.tag) s =
      .next (((s.removeClaim n c.port).endOccurrence n).updateAttention.setResult c.port .ok) :=
    State.command_matchClaim ht hst hc rfl
  obtain ⟨frame, claim, port, attention⟩ := State.claimGivenUp (OffBooks.endOccurrence (s := s.removeClaim n c.port) n)
  have hends := (State.staysOut_removeClaim (s := s) n c.port).endOccurrence (State.removeClaim_currentSample s n c.port)
  exact ⟨_, hx, frame, claim, hends.congr (SameBooks.commandEnd c.port .ok), port, attention⟩

theorem State.giveBack_enabled (hen : (s.source n).route.enable = true) : s.giveBack n c =
    ((((s.removeClaim n c.port).setSource n (((s.source n).restore c).reenter (some c.port))).enterFront
      [n]).updateAttention, .ok) := by
  simp [State.giveBack, hen]

theorem State.giveBack_disablePending (hen : (s.source n).route.enable = false) : s.giveBack n c =
    (((s.removeClaim n c.port).setSource n (s.source n).toDisabled).updateAttention, .ok) := by
  simp [State.giveBack, hen]

/-- Settles O29, by the enable of the source whose claim is returned. -/
theorem returnGivesOccurrenceBack : Obligations.ReturnGivesOccurrenceBack := by
  intro s p n c ht hst hc hp e
  subst hp
  have hx : exec (.returnClaim c.port n c.tag) s = .next ((s.giveBack n c).1.setResult c.port (s.giveBack n c).2) :=
    State.command_matchClaim ht hst hc rfl
  have hout := State.staysOut_removeClaim (s := s) n c.port
  cases hen : e.route.enable with
  | true =>
    rw [State.giveBack_enabled hen] at hx
    obtain ⟨frame, claim, port, attention⟩ := State.claimGivenUp ((OffBooks.setSource (s := s.removeClaim n c.port) n
      ((e.restore c).reenter (some c.port))).trans (OffBooks.enterFront [n]))
    have hin := (hout.setSource ((e.restore c).reenter (some c.port))).enterFront
    exact ⟨_, hx, frame, claim, fun _ => ⟨satAdd e.fold c.fold, rfl, hin.congr (SameBooks.commandEnd c.port .ok)⟩,
      fun h => (by cases h), port, attention⟩
  | false =>
    rw [State.giveBack_disablePending hen] at hx
    obtain ⟨frame, claim, port, attention⟩ :=
      State.claimGivenUp (OffBooks.setSource (s := s.removeClaim n c.port) n e.toDisabled)
    exact ⟨_, hx, frame, claim, fun h => (by cases h),
      fun _ => (hout.setSource e.toDisabled).congr (SameBooks.commandEnd c.port .ok), port, attention⟩

end Sys2Proof.Machine
end

section
namespace Sys2Proof.Machine

variable {s t u : State} {p : Port} {c : Instr}

/-! ### What an access leaves to the other ports, and how a command leaves a claim -/

/-- The ports other than `p` have the same settings, the same last word read and, if they hold it, the lease. -/
structure OthersKeep (s t : State) (p : Port) : Prop where
  port     : ∀ q, q ≠ p → t.port q = s.port q
  readWord : ∀ q : Port, q ≠ p → t.readWord[q] = s.readWord[q]
  lease    : ∀ q, q ≠ p → s.lease = some q → t.lease = some q

/-- The ways in which a command can leave the claim of source `n` (R88). -/
inductive ClaimStep (s t : State) (n : SourceId) : Instr → Prop where
  | kept (c : Instr) (same : t.claimOf n = s.claimOf n) : ClaimStep s t n c
  | ticked (timer : t.claimOf n = (s.claimOf n).map Claim.ticked) : ClaimStep s t n .tick
  | taken (p : Port) {cl : Claim} (offered : s.hasOffer p n = true) (now : t.claimOf n = some cl) :
      ClaimStep s t n (.claim p)
  | extended {cl cl' : Claim} (held : s.claimOf n = some cl) (now : t.claimOf n = some cl') :
      ClaimStep s t n (.extend cl.port n cl.tag)
  | completed {cl : Claim} (held : s.claimOf n = some cl) : ClaimStep s t n (.complete cl.port n cl.tag)
  | returned {cl : Claim} (held : s.claimOf n = some cl) : ClaimStep s t n (.returnClaim cl.port n cl.tag)
  | expired {cl : Claim} (held : s.claimOf n = some cl) (due : cl.remaining = some 0) : ClaimStep s t n (.expiry n)
  | portReset {cl : Claim} (held : s.claimOf n = some cl) : ClaimStep s t n (.portReset ⟨cl.port, true⟩)
  | partReset : ClaimStep s t n .partReset
  | powered (levels : Levels) : ClaimStep s t n (.powerOn levels)

theorem ClaimStep.of_claims {n : SourceId} (h : t.claims = s.claims) : ClaimStep s t n c :=
  .kept c (by simp only [State.claimOf, h])

theorem ClaimStep.congr {n : SourceId} (h : ClaimStep s t n c) (hu : u.claims = t.claims) : ClaimStep s u n c := by
  have hn : u.claimOf n = t.claimOf n := by simp only [State.claimOf, hu]
  cases h with
  | kept _ same => exact .kept _ (hn.trans same)
  | ticked timer => exact .ticked (hn.trans timer)
  | taken p offered now => exact .taken p offered (hn.trans now)
  | extended held now => exact .extended held (hn.trans now)
  | completed held => exact .completed held
  | returned held => exact .returned held
  | expired held due => exact .expired held due
  | portReset held => exact .portReset held
  | partReset => exact .partReset
  | powered levels => exact .powered levels

namespace OthersKeep

/-- Nothing of the ports differs. -/
theorem of_tables (hports : t.ports = s.ports) (hword : t.readWord = s.readWord) (hlease : t.lease = s.lease) :
    OthersKeep s t p where
  port _ _ := by simp only [State.port, hports]
  readWord _ _ := by rw [hword]
  lease _ _ h := hlease.trans h

theorem refl : OthersKeep s s p := of_tables rfl rfl rfl

theorem of_offBooks (h : OffBooks s t) : OthersKeep s t p := by
  rw [h]
  exact of_tables rfl rfl rfl

theorem trans (h : OthersKeep s t p) (h' : OthersKeep t u p) : OthersKeep s u p where
  port q hq := (h'.port q hq).trans (h.port q hq)
  readWord q hq := (h'.readWord q hq).trans (h.readWord q hq)
  lease q hq hl := h'.lease q hq (h.lease q hq hl)

theorem modPort (f : PortRegs → PortRegs) : OthersKeep s (s.modPort p f) p :=
  { refl with port := fun q hq => State.port_modPort_ne s p q f hq }

theorem setResult (code : Result) : OthersKeep s (s.setResult p code) p := modPort _

theorem returnWord (w : Word) : OthersKeep s (s.returnWord p w) p :=
  { refl with readWord := fun _ hq => State.readWord_returnWord_ne hq w }

theorem withLease {l : Option Port} (h : ∀ q, q ≠ p → s.lease = some q → l = some q) :
    OthersKeep s { s with lease := l } p := { refl with lease := h }

theorem removeClaim (n : SourceId) : OthersKeep s (s.removeClaim n p) p where
  port := (State.portBecomes_removeClaim n p).others
  readWord _ _ := by rw [State.removeClaim_readWord]
  lease _ _ hl := (State.removeClaim_lease s n p).trans hl

end OthersKeep

/-- An access `c` at port `p` leaves the other ports as they are, and each claim in one of the ways of `ClaimStep`. -/
structure AccessStep (s t : State) (p : Port) (c : Instr) : Prop where
  others : OthersKeep s t p
  claims : ∀ n, ClaimStep s t n c

namespace AccessStep

theorem of_others (h : OthersKeep s t p) (hc : t.claims = s.claims) : AccessStep s t p c := ⟨h, fun _ => .of_claims hc⟩

theorem of_tables (hports : t.ports = s.ports) (hword : t.readWord = s.readWord) (hlease : t.lease = s.lease)
    (hclaims : t.claims = s.claims) : AccessStep s t p c := of_others (.of_tables hports hword hlease) hclaims

theorem refl : AccessStep s s p c := of_tables rfl rfl rfl rfl

theorem of_offBooks (h : OffBooks s t) : AccessStep s t p c := of_others (.of_offBooks h) h.claims

theorem trans_others (h : AccessStep s t p c) (h' : OthersKeep t u p) (hc : u.claims = t.claims) : AccessStep s u p c :=
  ⟨h.others.trans h', fun n => (h.claims n).congr hc⟩

/-- What follows differs in the books alone. -/
theorem trans_offBooks (h : AccessStep s t p c) (h' : OffBooks t u) : AccessStep s u p c :=
  h.trans_others (.of_offBooks h') h'.claims

theorem modPort (f : PortRegs → PortRegs) : AccessStep s (s.modPort p f) p c := of_others (.modPort f) rfl

/-- An access is held, or leaves what its taking leaves (R161, R162). -/
theorem orHold {d : Instr} {take : State → State} (h : AccessStep s (take s) p c) (hx : s.orHold d p take = .next t) :
    AccessStep s t p c := by
  unfold State.orHold at hx
  split at hx <;> cases hx
  · exact of_tables rfl rfl rfl rfl
  · exact h

/-- A command is held, refused in RESULT, or leaves what its rule leaves (R162 to R164). -/
theorem command {d : Instr} {a : Admission} {rule : State → State × Result} (h : AccessStep s (rule s).1 p c)
    (hx : s.command d p a rule = .next t) : AccessStep s t p c := by
  refine orHold ?_ hx
  split
  · exact of_others (.setResult _) rfl
  · exact h.trans_others (.setResult _) rfl

/-! #### Ports, lease and settings -/

theorem leavePort : AccessStep s (s.leavePort p).1 p c := by
  unfold State.leavePort
  split
  · have hleft : AccessStep s (s.withdrawPort p) p c := by
      refine of_others ⟨(OthersKeep.modPort fun r => { r with state := s.leftState p }).port, fun _ _ => rfl,
        fun q hq hl => ?_⟩ rfl
      change (if s.lease = some p then none else s.lease) = some q
      rw [if_neg fun hp => hq (Option.some.inj (hl.symm.trans hp)), hl]
    exact hleft.trans_offBooks ((OffBooks.enterFront _).trans OffBooks.updateAttention)
  · exact refl

/-- LEASE TAKE takes a free lease alone (R166). -/
theorem takeLease : AccessStep s (s.takeLease p).1 p c := by
  unfold State.takeLease
  split
  · next hfree => exact of_others (.withLease fun q _ hl => by rw [hfree] at hl; cases hl) rfl
  · exact refl

/-- LEASE DROP frees a lease that the port itself holds (R166). -/
theorem dropLease : AccessStep s (s.dropLease p).1 p c := by
  unfold State.dropLease
  split
  · next hown => exact of_others (.withLease fun q hq hl => absurd (Option.some.inj (hl.symm.trans hown)) hq) rfl
  · exact refl

theorem selectRoute (n : SourceId) : AccessStep s (s.selectRoute p n).1 p c :=
  modPort fun r => { r with selected := n, staging := (s.source n).route.toStaging }

theorem writeStaging0 (w : Word) : AccessStep s (s.writeStaging0 p w).1 p c := by
  unfold State.writeStaging0
  split
  · next g _ => exact modPort fun r => { r with staging := g }
  · exact refl

theorem writeStaging1 (w : Word) : AccessStep s (s.writeStaging1 p w).1 p c :=
  modPort fun r => { r with staging := { r.staging with descAddr := w } }

theorem writeFloor (v : BitVec 4) : AccessStep s (s.writeFloor p v).1 p c := by
  unfold State.writeFloor
  split
  · exact (modPort _).trans_offBooks OffBooks.updateAttention
  · exact refl

theorem writeDivider (v : Word) : AccessStep s (s.writeDivider v).1 p c := by
  unfold State.writeDivider
  split <;> exact of_tables rfl rfl rfl rfl

theorem writeLimit (i : Fin 4) (v : Word) : AccessStep s (s.writeLimit i v).1 p c := by
  unfold State.writeLimit
  split <;> exact of_tables rfl rfl rfl rfl

theorem abortService : AccessStep s s.abortService.1 p c := by
  unfold State.abortService
  split <;> exact of_tables rfl rfl rfl rfl

/-! #### Sources -/

theorem commitRoute : AccessStep s (s.commitRoute p).1 p c := by
  unfold State.commitRoute
  dsimp only
  split
  · exact refl
  split
  · exact refl
  refine of_offBooks (OffBooks.trans ?_ OffBooks.updateAttention)
  split
  · exact (OffBooks.setSource _ _).trans (OffBooks.latch _)
  · exact OffBooks.setSource _ _

theorem disableSource (n : SourceId) : AccessStep s (s.disableSource n).1 p c := by
  have hleft : AccessStep s (s.leaveCollection n) p c := by
    rw [State.leaveCollection_frame]
    exact of_tables rfl rfl rfl rfl
  rw [State.disableSource_eq]
  exact hleft.trans_offBooks ((OffBooks.setSource n _).trans OffBooks.updateAttention)

theorem resumeSource (n : SourceId) : AccessStep s (s.resumeSource n).1 p c := by
  unfold State.resumeSource
  split
  · exact of_offBooks (((OffBooks.setSource n _).trans (OffBooks.enterFront [n])).trans OffBooks.updateAttention)
  · exact refl

theorem postPayload (n : SourceId) (d : Payload) : AccessStep s (s.postPayload n d).1 p c := by
  unfold State.postPayload
  split
  · exact refl
  split
  · exact refl
  split
  · exact refl
  refine of_offBooks (OffBooks.trans ?_ OffBooks.updateAttention)
  split
  · exact (OffBooks.setSource n _).trans (OffBooks.latch n)
  · exact OffBooks.setSource n _

theorem unpostSource (n : SourceId) : AccessStep s (s.unpostSource n).1 p c := by
  have hhead {u : State} (h : AccessStep s u p c) : AccessStep s (u.discardHead n).updateAttention p c :=
    h.trans_offBooks ((OffBooks.discardHead n).trans OffBooks.updateAttention)
  unfold State.unpostSource
  split
  · exact refl
  split
  · exact refl
  split
  · exact hhead (of_tables rfl rfl rfl rfl)
  · exact hhead (of_tables rfl rfl rfl rfl)
  · split
    · exact refl
    · exact of_offBooks (OffBooks.setSource n _)
  · split
    · exact of_offBooks (OffBooks.setSource n _)
    · exact refl
  all_goals exact refl

/-! #### Claims and fault records -/

theorem answerTake (word : BitVec 4) (code : Result) : AccessStep s (s.answerTake p word code) p c :=
  of_others ((OthersKeep.returnWord _).trans (.setResult _)) rfl

/-- The source whose claim a CLAIM read makes is the one that the port has an offer of (R93). -/
theorem claimRead : AccessStep s (s.claimRead p) p (.claim p) := by
  unfold State.claimRead
  split
  · exact answerTake _ _
  · exact answerTake _ _
  split
  · exact answerTake _ _
  next o rest hq =>
  split
  · exact answerTake _ _
  refine ⟨⟨(State.portBecomes_makeClaim p o rest).others, fun q hne => ?_, fun _ _ hl => hl⟩, fun n => ?_⟩
  · rw [State.readWord_makeClaim, State.readWord_returnWord_ne hne]
  · have hclaim := State.claimOf_makeClaim (s := s) p o rest n
    by_cases hn : n = o.src
    · rw [hn, State.claimOf_setClaim_self] at hclaim
      exact .taken p (by simp [State.hasOffer, hq, hn]) (hn ▸ hclaim)
    · rw [State.claimOf_setClaim_ne s o.src n _ hn] at hclaim
      exact .kept _ hclaim

theorem faultRead : AccessStep s (s.faultRead p) p c := by
  unfold State.faultRead
  split
  · exact answerTake _ _
  split
  · exact answerTake _ _
  next r rest _ =>
    let popped : State := { s with faults := rest }
    have hpop : OthersKeep s popped p := .of_tables rfl rfl rfl
    exact of_others ((hpop.trans (.modPort _)).trans ((OthersKeep.returnWord r.firstWord).trans
      (.of_offBooks OffBooks.updateAttention))) rfl

/-- COMPLETE, RETURN and EXTEND leave what their rule makes of a claim that the port holds under the tag (R99). -/
theorem matchClaim {n : SourceId} {tag : Tag} {rule : State → Claim → State × Result}
    (h : ∀ cl, s.claimOf n = some cl → cl.port = p → cl.tag = tag → AccessStep s (rule s cl).1 p c) :
    AccessStep s (s.matchClaim p n tag rule).1 p c := by
  unfold State.matchClaim
  split
  · exact refl
  next cl hcl =>
  split
  · exact refl
  next hp =>
  split
  · exact refl
  next htag => exact h cl hcl (not_not.mp hp) (not_not.mp htag)

/-- The end of a claim of source `n` changes no other claim. -/
theorem removeClaim {n : SourceId} (h : ClaimStep s (s.removeClaim n p) n c) : AccessStep s (s.removeClaim n p) p c where
  others := .removeClaim n
  claims m := by
    by_cases hm : m = n
    · exact hm ▸ h
    · exact .kept c ((State.claimBecomes_removeClaim n p).others m hm)

theorem completeClaim {n : SourceId} {cl : Claim} (hcl : s.claimOf n = some cl) :
    AccessStep s (s.completeClaim n cl).1 cl.port (.complete cl.port n cl.tag) :=
  (removeClaim (.completed hcl)).trans_offBooks ((OffBooks.endOccurrence n).trans OffBooks.updateAttention)

theorem giveBack {n : SourceId} {cl : Claim} (hcl : s.claimOf n = some cl) :
    AccessStep s (s.giveBack n cl).1 cl.port (.returnClaim cl.port n cl.tag) := by
  have hgone : AccessStep s (s.removeClaim n cl.port) cl.port (.returnClaim cl.port n cl.tag) :=
    removeClaim (.returned hcl)
  cases hen : (s.source n).route.enable with
  | true =>
    rw [State.giveBack_enabled hen]
    exact hgone.trans_offBooks (((OffBooks.setSource n _).trans (OffBooks.enterFront [n])).trans OffBooks.updateAttention)
  | false =>
    rw [State.giveBack_disablePending hen]
    exact hgone.trans_offBooks ((OffBooks.setSource n _).trans OffBooks.updateAttention)

theorem extendClaim {n : SourceId} {cl : Claim} (hcl : s.claimOf n = some cl) :
    AccessStep s (s.extendClaim n cl).1 p (.extend cl.port n cl.tag) := by
  unfold State.extendClaim
  split
  · exact refl
  split
  · exact refl
  refine ⟨.of_tables rfl rfl rfl, fun m => ?_⟩
  by_cases hm : m = n
  · subst hm
    exact .extended hcl (State.claimOf_setClaim_self s m _)
  · exact .kept _ (State.claimOf_setClaim_ne s n m _ hm)

/-! #### Every access -/

/-- Every access leaves the ports and the claims in the ways of `AccessStep`. -/
theorem of_exec (hp : accessPort c = some p) (hx : exec c s = .next t) : AccessStep s t p c := by
  cases c with
  | join r => cases hp; exact command ((modPort _).trans_offBooks .updateAttention) (exec_join s p ▸ hx)
  | leave r => cases hp; exact leavePort.command (exec_leave s p ▸ hx)
  | leaseTake r => cases hp; exact takeLease.command (exec_leaseTake s p ▸ hx)
  | leaseDrop r => cases hp; exact dropLease.command (exec_leaseDrop s p ▸ hx)
  | routeSelect r n => cases hp; exact (selectRoute n).command (exec_routeSelect s p n ▸ hx)
  | staging0 r w => cases hp; exact (writeStaging0 w).command (exec_staging0 s p w ▸ hx)
  | staging1 r w => cases hp; exact (writeStaging1 w).command (exec_staging1 s p w ▸ hx)
  | routeCommit r => cases hp; exact commitRoute.command (exec_routeCommit s p ▸ hx)
  | disable r n => cases hp; exact (disableSource n).command (exec_disable s p n ▸ hx)
  | resume r n => cases hp; exact (resumeSource n).command (exec_resume s p n ▸ hx)
  | post r n d => cases hp; exact (postPayload n d).command (exec_post s p n d ▸ hx)
  | unpost r n => cases hp; exact (unpostSource n).command (exec_unpost s p n ▸ hx)
  | claim r => cases hp; exact claimRead.orHold (exec_claim s p ▸ hx)
  | complete r n tag =>
    cases hp
    refine command (matchClaim fun cl hcl hport htag => ?_) (exec_complete s p n tag ▸ hx)
    subst hport htag
    exact completeClaim hcl
  | returnClaim r n tag =>
    cases hp
    refine command (matchClaim fun cl hcl hport htag => ?_) (exec_returnClaim s p n tag ▸ hx)
    subst hport htag
    exact giveBack hcl
  | extend r n tag =>
    cases hp
    refine command (matchClaim fun cl hcl hport htag => ?_) (exec_extend s p n tag ▸ hx)
    subst hport htag
    exact extendClaim hcl
  | floor r v => cases hp; exact (writeFloor v).command (exec_floor s p v ▸ hx)
  | faultWatch r on =>
    cases hp; exact command ((modPort _).trans_offBooks .updateAttention) (exec_faultWatch s p on ▸ hx)
  | tickDivider r v => cases hp; exact (writeDivider v).command (exec_tickDivider s p v ▸ hx)
  | limit r i v => cases hp; exact (writeLimit i v).command (exec_limit s p i v ▸ hx)
  | run r => cases hp; exact command (of_tables rfl rfl rfl rfl) (exec_run s p ▸ hx)
  | halt r => cases hp; exact command (of_tables rfl rfl rfl rfl) (exec_halt s p ▸ hx)
  | abort r => cases hp; exact abortService.command (exec_abort s p ▸ hx)
  | fault r => cases hp; exact faultRead.orHold (exec_fault s p ▸ hx)
  | narrowTakeRead r reg enables =>
    cases hp; exact orHold (of_others (.returnWord 0) rfl) (exec_narrowTakeRead s p reg enables ▸ hx)
  | undefinedAccess r a =>
    cases hp
    rw [exec_undefinedAccess] at hx
    split at hx
    · refine orHold ?_ hx
      split
      · exact refl
      · exact of_others (.returnWord 0) rfl
    · cases hx
  | _ => cases hp

end AccessStep

/-- Settles O52: an access reaches a claim of another port only by taking an offer of its source, which the invariant rules
out (R5). -/
theorem accessesLeaveOtherPorts : Obligations.AccessesLeaveOtherPorts := by
  intro c s t p q hinv hp hq hx
  obtain ⟨⟨hport, hword, hlease⟩, hclaims⟩ := AccessStep.of_exec hp hx
  refine ⟨hport q hq, hword q hq, hlease q hq, fun n cl hcl hclq => ?_⟩
  have hheld {cl' : Claim} (held : s.claimOf n = some cl') (hport : cl'.port = p) : t.claimOf n = some cl := by
    rw [hcl] at held
    cases held
    exact absurd (hclq.symm.trans hport) hq
  cases hclaims n with
  | kept _ same => exact same.trans hcl
  | taken r offered _ =>
    obtain ⟨o, ho, hon⟩ := List.any_eq_true.mp offered
    obtain rfl : o.src = n := beq_iff_eq.mp hon
    have hclaimed := (hinv.claims.claimed o.src).mp (by rw [hcl]; rfl)
    rw [(hinv.offers.agree r o ho).1] at hclaimed
    cases hclaimed
  | extended held _ => exact hheld held (Option.some.inj hp)
  | completed held => exact hheld held (Option.some.inj hp)
  | returned held => exact hheld held (Option.some.inj hp)
  | ticked | expired | portReset | partReset | powered => cases hp

end Sys2Proof.Machine
end

section
namespace Sys2Proof.Machine

variable {s t u : State}

/-! ### Claims through the happenings that are no access -/

/-- What a line does to its source is written in the books alone (R30, R33). -/
theorem OffBooks.judgeChange (n : SourceId) (level : Bool) : OffBooks s (s.judgeChange n level) := by
  unfold State.judgeChange State.qualifyingEdge State.activation
  repeat' split
  · exact latch n
  · exact setSource n _
  · exact latch n
  all_goals exact refl

theorem State.claims_foldl_latchAtRelease (ns : List SourceId) :
    (ns.foldl State.latchAtRelease s).claims = s.claims := by
  induction ns generalizing s with
  | nil => rfl
  | cons n ns ih =>
    rw [List.foldl_cons, ih, State.latchAtRelease_eq]
    split
    · exact State.latch_claims s n
    · rfl

theorem State.claims_releaseReset (note : ResetNote) (levels : Levels) :
    (s.releaseReset note levels).claims = s.claims := by
  rw [State.releaseReset_eq, State.updateAttention_claims, State.claims_foldl_latchAtRelease, State.handRecord_claims]
  rfl

theorem State.claims_place : s.place.claims = s.claims := by
  unfold State.place
  split
  · rfl
  · rw [State.updateAttention_claims, State.placeHosts_frame]
  · rfl

theorem State.claims_startService : s.startService.claims = s.claims := by
  unfold State.startService
  split
  · split <;> rfl
  · rfl

theorem State.claims_endService (n : SourceId) (addr : Option Word) (rs : List FaultRecord) (flag : Option EngineFlag) :
    (s.endService n addr rs flag).claims = s.claims := (State.endService_offBooks n addr rs flag).claims

theorem State.claims_moveError (v : Service) (w : Work) (ph : BusPhase) : (s.moveError v w ph).claims = s.claims :=
  State.handRecord_claims s _

theorem State.claims_fetchDone (v : Service) (control src dst link : Word) :
    (s.fetchDone v control src dst link).claims = s.claims := by
  unfold State.fetchDone
  split
  · exact State.claims_endService _ _ _ _
  split
  · rfl
  · exact State.claims_endService _ _ _ _

theorem State.claims_fetchAnswer (a : ReadAnswer) : (s.fetchAnswer a).claims = s.claims := by
  unfold State.fetchAnswer
  split
  · rfl
  split
  case h_4 => exact State.claims_fetchDone _ _ _ _ _
  case h_5 | h_6 | h_7 | h_8 => exact State.claims_endService _ _ _ _
  all_goals rfl

theorem State.claims_unitReadAnswer (a : ReadAnswer) : (s.unitReadAnswer a).claims = s.claims := by
  unfold State.unitReadAnswer
  split
  · rfl
  split
  case h_2 => rfl
  split
  · rfl
  · exact State.claims_moveError _ _ _

theorem State.claims_unitWriteAnswer (a : WriteAnswer) : (s.unitWriteAnswer a).claims = s.claims := by
  unfold State.unitWriteAnswer
  split
  · rfl
  split
  case h_2 => rfl
  split
  · unfold State.unitDone
    split <;> rfl
  · exact State.claims_moveError _ _ _

theorem State.claims_writebackAnswer (a : WriteAnswer) : (s.writebackAnswer a).claims = s.claims := by
  unfold State.writebackAnswer
  split
  · rfl
  split
  case h_2 => rfl
  split
  · rfl
  · rfl
  · unfold State.endWriteback
    split
    · exact State.claims_endService _ _ _ _
    split <;> exact State.claims_endService _ _ _ _
  · exact State.claims_endService _ _ _ _

/-- An expiry ends its own claim alone. -/
theorem State.claimOf_expire (n m : SourceId) (cl : Claim) :
    (s.expire n cl).claimOf m = if n = m then none else s.claimOf m := by
  rw [← State.claimOf_removeClaim s n m cl.port]
  unfold State.expire
  dsimp only
  split
  · simp
  split <;> simp

theorem State.claimOf_resetPort (p : Port) (n : SourceId) :
    (s.resetPort p).claimOf n = if s.holds p n then none else s.claimOf n := by
  rw [← State.claimOf_clearPort]
  unfold State.resetPort
  dsimp only
  split <;> simp

/-- A reset input ends a claim only by resetting the port that holds it (R160). -/
theorem claimStep_assertPortReset (p : Port) (n : SourceId) :
    ClaimStep s (s.assertPortReset p) n (.portReset ⟨p, true⟩) := by
  unfold State.assertPortReset
  split
  · exact .of_claims rfl
  split
  · exact .of_claims rfl
  have hreset := State.claimOf_resetPort (s := s.setPortReset p true) p n
  split at hreset
  · next hholds =>
    obtain ⟨cl, hcl, rfl⟩ := State.holds_iff.mp hholds
    exact .portReset hcl
  · exact .kept _ hreset

/-- Every command leaves a claim in one of the ways of `ClaimStep`. -/
theorem claimStep_exec {c : Instr} {n : SourceId} (hx : exec c s = .next t) : ClaimStep s t n c := by
  cases c with
  | powerOn levels => exact .powered levels
  | partReset => exact .partReset
  | resetRelease levels =>
    rw [exec_resetRelease, execResetRelease] at hx
    split at hx <;> obtain rfl := Host.Outcome.next.inj hx
    · exact .of_claims (State.claims_releaseReset _ levels)
    · exact .of_claims rfl
  | portReset prst =>
    obtain ⟨p, asserted⟩ := prst
    rw [exec_portReset] at hx
    cases hx
    cases asserted with
    | true => exact claimStep_assertPortReset p n
    | false => exact .of_claims rfl
  | lineChange l level =>
    rw [exec_lineChange] at hx
    cases hx
    split
    · exact .of_claims rfl
    split
    · exact .of_claims rfl
    · exact .of_claims (OffBooks.judgeChange (s := s.sampleLine l level) (lineSource l) level).claims
  | placement => cases hx; exact .of_claims State.claims_place
  | tick =>
    rw [exec_tick] at hx
    cases hx
    split
    · exact .of_claims rfl
    · exact .ticked (State.claimOf_takeTick n)
  | expiry m =>
    rw [exec_expiry, execExpiry] at hx
    split at hx <;> obtain rfl := Host.Outcome.next.inj hx
    · next cl hcl =>
      split
      · next hdue =>
        have hexp := State.claimOf_expire (s := s) m n cl
        split at hexp
        · next hm => exact hm ▸ .expired (hm ▸ hcl) (beq_iff_eq.mp hdue)
        · exact .kept _ hexp
      · exact .of_claims rfl
    · exact .of_claims rfl
  | serviceStart => cases hx; exact .of_claims State.claims_startService
  | fetchAnswer a => cases hx; exact .of_claims (State.claims_fetchAnswer a)
  | unitReadAnswer a => cases hx; exact .of_claims (State.claims_unitReadAnswer a)
  | unitWriteAnswer a => cases hx; exact .of_claims (State.claims_unitWriteAnswer a)
  | writebackAnswer a => cases hx; exact .of_claims (State.claims_writebackAnswer a)
  | _ => exact (AccessStep.of_exec rfl hx).claims n

/-- Settles O53, by the way in which the command leaves the claim. -/
theorem claimEndsOnlyBy : Obligations.ClaimEndsOnlyBy := by
  intro c s t n cl hx hcl hgone
  have heq {cl' : Claim} (held : s.claimOf n = some cl') : cl' = cl := Option.some.inj (held.symm.trans hcl)
  cases claimStep_exec (n := n) hx with
  | kept _ same => rw [same, hcl] at hgone; cases hgone
  | ticked timer => rw [timer, hcl] at hgone; cases hgone
  | taken _ _ now => rw [now] at hgone; cases hgone
  | extended _ now => rw [now] at hgone; cases hgone
  | completed held => exact .inl (heq held ▸ rfl)
  | returned held => exact .inr (.inl (heq held ▸ rfl))
  | expired held due => exact .inr (.inr (.inl ⟨rfl, heq held ▸ due⟩))
  | portReset held => exact .inr (.inr (.inr (.inl (heq held ▸ rfl))))
  | partReset => exact .inr (.inr (.inr (.inr (.inl rfl))))
  | powered levels => exact .inr (.inr (.inr (.inr (.inr ⟨levels, rfl⟩))))

end Sys2Proof.Machine
end

section
namespace Sys2Proof.Machine

variable {s t u : State} {p : Port} {n : SourceId} {c : Claim}

/-! ### The rule of an expiry -/

/-- Steps 1 to 4 of R117: the claim is gone, the entry has its payload and fold count back and its revocation count raised,
and CLAIM_EXPIRED is handed. -/
def State.revokeClaim (s : State) (n : SourceId) (c : Claim) : State :=
  ((s.removeClaim n c.port).setSource n ((s.source n).expired c)).handRecord
    (claimExpiredRecord n c ((s.source n).expired c).revocations (!(s.source n).route.enable))

theorem State.expire_disablePending (hen : (s.source n).route.enable = false) :
    s.expire n c = (s.revokeClaim n c).setSource n ((s.source n).expired c).toDisabled := by
  have hen' : ((s.source n).expired c).route.enable = false := hen
  simp only [State.expire, State.revokeClaim, hen, hen', Bool.not_false, if_true]

theorem State.expire_abandons (hen : (s.source n).route.enable = true)
    (hrev : ((s.source n).expired c).revocations = 3) :
    s.expire n c = ((s.revokeClaim n c).setSource n { (s.source n).expired c with state := .suspended }).handRecord
      (abandonedRecord n c ((s.source n).expired c).fold) := by
  have hen' : ((s.source n).expired c).route.enable = true := hen
  simp only [State.expire, State.revokeClaim, hen, hen', hrev, Bool.not_true, Bool.false_eq_true, if_false, if_true]

theorem State.expire_reenters (hen : (s.source n).route.enable = true)
    (hrev : ((s.source n).expired c).revocations ≠ 3) :
    s.expire n c = ((s.revokeClaim n c).setSource n (((s.source n).expired c).reenter (some c.port))).enterFront [n] := by
  have hen' : ((s.source n).expired c).route.enable = true := hen
  simp only [State.expire, State.revokeClaim, hen, hen', hrev, Bool.not_true, Bool.false_eq_true, if_false]

/-- A revocation count below 3 rises by 1 (R17, R117). -/
theorem revocationsAfter_val {r : Fin 4} (h : r.val < 3) : (revocationsAfter r).val = r.val + 1 := by
  simp only [revocationsAfter]
  omega

/-! ### EXPIRY -/

theorem exec_expiry_notDue (h : ∀ c, s.claimOf n = some c → c.remaining ≠ some 0) : exec (.expiry n) s = .next s := by
  rw [exec_expiry]
  cases hc : s.claimOf n with
  | none => simp [execExpiry, hc]
  | some c =>
    have hnot : c.due = false := beq_eq_false_iff_ne.mpr (h c hc)
    simp [execExpiry, hc, hnot]

theorem exec_expiry_due (hc : s.claimOf n = some c) (hdue : c.remaining = some 0) :
    exec (.expiry n) s = .next (s.expire n c).updateAttention := by
  have hd : c.due = true := beq_iff_eq.mpr hdue
  simp [exec_expiry, execExpiry, hc, hd]

/-! ### What an expiry writes -/

theorem OffBooks.ports (h : OffBooks s t) : t.ports = s.ports := by rw [h]

theorem StaysOut.handRecord {e : SourceEntry} {before : List FaultRecord} (h : StaysOut s u n e before)
    (r : FaultRecord) : StaysOut s (u.handRecord r) n e (before ++ [r]) where
  backlog := by rw [State.handRecord_backlog, h.backlog]
  source := ⟨by rw [State.handRecord_source, h.source.source], fun m hm => by
    rw [State.handRecord_source, h.source.others m hm]⟩
  records := h.records.append (recordsHanded_foldl [r])

/-- The source of an expired claim, before R117 chooses where it goes. -/
theorem State.staysOut_revokeClaim : StaysOut s (s.revokeClaim n c) n ((s.source n).expired c)
    [claimExpiredRecord n c ((s.source n).expired c).revocations (!(s.source n).route.enable)] :=
  ((State.staysOut_removeClaim n c.port).setSource _).handRecord _

/-- Beside the books an expiry removes the claim alone, whichever way the source goes. -/
theorem State.offBooks_expire : OffBooks (s.removeClaim n c.port) (s.expire n c) := by
  have hrevoke : OffBooks (s.removeClaim n c.port) (s.revokeClaim n c) :=
    (OffBooks.setSource n _).trans (OffBooks.handRecord _)
  cases hen : (s.source n).route.enable with
  | false =>
    rw [State.expire_disablePending hen]
    exact hrevoke.trans (OffBooks.setSource n _)
  | true =>
    by_cases hrev : ((s.source n).expired c).revocations = 3
    · rw [State.expire_abandons hen hrev]
      exact (hrevoke.trans (OffBooks.setSource n _)).trans (OffBooks.handRecord _)
    · rw [State.expire_reenters hen hrev]
      exact (hrevoke.trans (OffBooks.setSource n _)).trans (OffBooks.enterFront [n])

/-- A claim removed with what follows in the books writes no more than these fields. -/
theorem OffBooks.frame_removeClaim (h : OffBooks (s.removeClaim n p) t) :
    t = { s with sources := t.sources, backlog := t.backlog, claims := t.claims, ports := t.ports, faults := t.faults,
                 dropped := t.dropped, attn := t.attn } :=
  calc t = { s.removeClaim n p with sources := t.sources, backlog := t.backlog, faults := t.faults,
                                    dropped := t.dropped, attn := t.attn } := h
    _ = { s with sources := t.sources, backlog := t.backlog, claims := (s.removeClaim n p).claims,
                 ports := (s.removeClaim n p).ports, faults := t.faults, dropped := t.dropped, attn := t.attn } :=
        congrArg (fun x : State => { x with sources := t.sources, backlog := t.backlog, faults := t.faults,
                                            dropped := t.dropped, attn := t.attn }) (State.removeClaim_frame n p)
    _ = _ := by rw [← h.claims, ← h.ports]

theorem OffBooks.claimBecomes (h : OffBooks (s.removeClaim n p) t) : ClaimBecomes s t n none := by
  have hclaim : ∀ m, t.claimOf m = (s.removeClaim n p).claimOf m := fun m => congrArg (·[m]) h.claims
  obtain ⟨hgone, hothers⟩ := State.claimBecomes_removeClaim (s := s) n p
  exact ⟨(hclaim n).trans hgone, fun m hm => (hclaim m).trans (hothers m hm)⟩

theorem OffBooks.portBecomes (h : OffBooks (s.removeClaim n p) t) :
    PortBecomes s t p { s.port p with state := stateWithoutClaim s n p } := by
  obtain ⟨hport, hothers⟩ := State.portBecomes_removeClaim (s := s) n p
  exact ⟨(h.port p).trans hport, fun q hq => (h.port q).trans (hothers q hq)⟩

/-- Settles O33, by the enable of the source and its raised revocation count. -/
theorem expiryRevokesClaim : Obligations.ExpiryRevokesClaim := by
  intro s n
  refine ⟨exec_expiry_notDue, fun c hc hdue hrev => ?_⟩
  have hoff := (State.offBooks_expire (s := s) (n := n) (c := c)).trans OffBooks.updateAttention
  have hrevoked := State.staysOut_revokeClaim (s := s) (n := n) (c := c)
  refine ⟨_, (s.source n).expired c, exec_expiry_due hc hdue, hoff.frame_removeClaim, rfl, rfl,
    revocationsAfter_val hrev, hoff.claimBecomes, fun hen => ?_, fun hen hthird => ?_, fun hen hbelow => ?_,
    hoff.portBecomes, attnOk_updateAttention⟩
  · rw [State.expire_disablePending hen]
    exact (hrevoked.setSource _).congr SameBooks.updateAttention
  · rw [State.expire_abandons hen (Fin.ext hthird)]
    exact ((hrevoked.setSource _).handRecord _).congr SameBooks.updateAttention
  · rw [State.expire_reenters hen (Fin.ne_of_lt hbelow)]
    exact (hrevoked.setSource _).enterFront.congr SameBooks.updateAttention

end Sys2Proof.Machine
end

section
namespace Sys2Proof.Machine

variable {s t u : State} {p : Port} {v : Word} {i : Fin 4}

/-! ### TICK DIVIDER and LIMIT0 to LIMIT3 -/

theorem State.writeDivider_accepted (hlow : 1 ≤ v.toNat) (hhigh : v.toNat ≤ 4096) :
    s.writeDivider v = ({ s with divider := v.toNat }, .ok) := if_pos ⟨hlow, hhigh⟩

theorem State.writeDivider_refused (h : v.toNat = 0 ∨ 4096 < v.toNat) : s.writeDivider v = (s, .invalid) :=
  if_neg (show ¬(1 ≤ v.toNat ∧ v.toNat ≤ 4096) by omega)

theorem State.writeLimit_accepted (h : v.toNat ≤ 65535) :
    s.writeLimit i v = ({ s with limits := s.limits.set i (v.setWidth 16) }, .ok) := if_pos h

theorem State.writeLimit_refused (h : 65535 < v.toNat) : s.writeLimit i v = (s, .invalid) := if_neg (Nat.not_le.mpr h)

/-- The 16 bits of a limit keep every value in its range. -/
theorem toNat_setWidth_limit (h : v.toNat ≤ 65535) : (v.setWidth 16).toNat = v.toNat := by
  rw [BitVec.toNat_setWidth, Nat.mod_eq_of_lt (by omega)]

/-- Settles O18, by the range of the value written. -/
theorem dividerAndLimitWrites : Obligations.DividerAndLimitWrites := by
  intro s p v ht hon hlease
  have ha := (State.refusal_none s .leaseHolder p).mpr ⟨hon, hlease⟩
  refine ⟨fun hlow hhigh => ?_, fun h => State.command_answers ht ha (State.writeDivider_refused h), fun i h => ?_,
    fun i h => State.command_answers ht ha (State.writeLimit_refused h)⟩
  · have hx := State.command_taken (c := .tickDivider p v) (rule := State.writeDivider v) ht ha
    rw [State.writeDivider_accepted hlow hhigh] at hx
    exact ⟨_, hx, rfl, portBecomes_setResult (s := s) (t := { s with divider := v.toNat }) (fun _ => rfl) .ok⟩
  · have hx := State.command_taken (c := .limit p i v) (rule := State.writeLimit i v) ht ha
    rw [State.writeLimit_accepted h] at hx
    refine ⟨_, hx, rfl, ?_, fun j hj => ?_,
      portBecomes_setResult (s := s) (t := { s with limits := s.limits.set i (v.setWidth 16) }) (fun _ => rfl) .ok⟩
    · simpa using toNat_setWidth_limit h
    · simp [Vector.getElem_set_ne, Fin.val_ne_of_ne hj.symm]

end Sys2Proof.Machine
end

section
namespace Sys2Proof.Machine

open BitVec

variable {s : State} {n : SourceId} {p : Port}

/-! ### Codes and fields of the route words -/

theorem toNat_detectionCode (d : Option Detection) : (detectionCode d).toNat =
    match d with
    | none => 0 | some .rising => 1 | some .falling => 2 | some .both => 3 | some .high => 4 | some .low => 5 := by
  rcases d with _ | _ | _ | _ | _ | _ <;> rfl

theorem toNat_modeCode (m : HandOnMode) : (modeCode m).toNat =
    match m with | .fixed => 0 | .shared => 1 | .contest => 2 := by
  cases m <;> rfl

theorem toNat_stateCode (st : SourceState) : (stateCode st).toNat =
    match st with
    | .disabled => 0 | .idle => 1 | .latched => 2 | .offered => 3 | .claimed => 4 | .engineWait => 5
    | .engineActive => 6 | .suspended => 7 := by
  cases st <;> rfl

/-- The flags in the order of Table 10-5. -/
theorem HandOnFlags.getLsbD_bits (f : HandOnFlags) : f.bits.getLsbD 0 = f.done ∧ f.bits.getLsbD 1 = f.fault ∧
    f.bits.getLsbD 2 = f.aborted ∧ f.bits.getLsbD 3 = f.reoffer := by
  obtain ⟨done, fault, aborted, reoffer⟩ := f
  revert done fault aborted reoffer
  decide

/-- A bit of a word is the bit of the field that it stands in. -/
theorem getLsbD_of_field {w k len i : Nat} {x : BitVec w} {f : BitVec len} (h : x.extractLsb' k len = f) (hi : i < len) :
    x.getLsbD (k + i) = f.getLsbD i := by
  rw [← h, getLsbD_extractLsb']
  simp [hi]

/-- Bits 15:0 of a word show a route configuration in the fields of Table 10-4. -/
structure ShowsRoute (w : Word) (enable : Bool) (cls : SourceClass) (d : Option Detection) (m : HandOnMode)
    (eligible : BitVec 4) (limitIdx : Fin 4) (present : Bool) : Prop where
  enable    : w.getLsbD 0 = enable
  cls       : (w.extractLsb' 1 3).toNat = cls.val
  detection : w.extractLsb' 4 3 = detectionCode d
  mode      : w.extractLsb' 7 2 = modeCode m
  eligible  : w.extractLsb' 9 4 = eligible
  limitIdx  : (w.extractLsb' 13 2).toNat = limitIdx.val
  present   : w.getLsbD 15 = present

theorem showsRoute_routeBits (upper : BitVec 16) (enable : Bool) (cls : SourceClass) (d : Option Detection)
    (m : HandOnMode) (eligible : BitVec 4) (limitIdx : Fin 4) (present : Bool) :
    ShowsRoute (upper ++ routeBits enable cls d m eligible limitIdx present) enable cls d m eligible limitIdx present := by
  unfold routeBits
  constructor
  case enable | present => simp only [getLsbD_append]; simp
  all_goals simp (disch := omega) only [extractLsb'_append_eq_of_add_le, extractLsb'_append_eq_of_le]
  case cls | limitIdx => exact congrArg BitVec.toNat extractLsb'_eq_self
  case detection | mode | eligible => exact extractLsb'_eq_self

/-! ### ROUTE STATE 0, 1 and 2 -/

theorem State.showsRoute_routeState0 (n : SourceId) : ShowsRoute (s.routeState0 n) (s.source n).route.enable
    (s.source n).route.cls (s.source n).route.detection (s.source n).route.mode (s.source n).route.eligible
    (s.source n).route.limitIdx (s.source n).route.descAddr.isSome :=
  showsRoute_routeBits _ _ _ _ _ _ _ _

theorem State.routeState0_source (n : SourceId) : ((s.routeState0 n).extractLsb' 16 6).toNat = n.val := by
  simp (disch := omega) only [State.routeState0, extractLsb'_append_eq_of_add_le, extractLsb'_append_eq_of_le]
  exact congrArg BitVec.toNat extractLsb'_eq_self

theorem State.routeState0_claimed (n : SourceId) :
    (s.routeState0 n).getLsbD 22 = decide ((s.source n).state = .claimed) := by
  simp only [State.routeState0, getLsbD_append]
  simp [beq_eq_decide]

theorem State.routeState0_holder {c : Claim} (hst : (s.source n).state = .claimed) (hc : s.claimOf n = some c) :
    ((s.routeState0 n).extractLsb' 23 2).toNat = c.port.val := by
  simp (disch := omega) only [State.routeState0, hst, hc, extractLsb'_append_eq_of_add_le, extractLsb'_append_eq_of_le]
  exact congrArg BitVec.toNat extractLsb'_eq_self

theorem State.routeState0_unused (n : SourceId) : (s.routeState0 n).extractLsb' 25 7 = 0 := by
  simp (disch := omega) only [State.routeState0, extractLsb'_append_eq_of_le]
  exact extractLsb'_eq_self

/-- The low bits of a multiple of 16 are 0 already. -/
theorem and_descMask {a : Word} (h : a.toNat % 16 = 0) : a &&& 0xFFFFFFF0#32 = a := by
  have hmask : ∀ i : Fin 32, (0xFFFFFFF0#32).getLsbD i = decide (4 ≤ i.val) := by decide
  refine eq_of_getLsbD_eq fun i hi => ?_
  rw [getLsbD_and, hmask ⟨i, hi⟩]
  by_cases hlow : i < 4
  · have hbit := Nat.testBit_mod_two_pow a.toNat 4 i
    rw [show 2 ^ 4 = 16 from rfl, h, Nat.zero_testBit, decide_eq_true hlow, Bool.true_and, testBit_toNat] at hbit
    rw [← hbit, Bool.false_and]
  · simp [Nat.not_lt.mp hlow]

/-- A descriptor address is shown whole (R133). -/
theorem State.routeState1_eq (h : ∀ a, (s.source n).route.descAddr = some a → a.toNat % 16 = 0) :
    s.routeState1 n = (s.source n).route.descAddr.getD 0 := by
  unfold State.routeState1
  split
  · next a ha => rw [ha, and_descMask (h a ha)]; rfl
  · next ha => rw [ha]; rfl

theorem State.routeState2_state (n : SourceId) : (s.routeState2 n).extractLsb' 0 3 = stateCode (s.source n).state := by
  simp (disch := omega) only [State.routeState2, extractLsb'_append_eq_of_add_le]
  exact extractLsb'_eq_self

theorem State.routeState2_again (n : SourceId) : (s.routeState2 n).getLsbD 3 = (s.source n).again := by
  simp only [State.routeState2, getLsbD_append]
  simp

theorem State.routeState2_revocations (n : SourceId) :
    ((s.routeState2 n).extractLsb' 4 2).toNat = (s.source n).revocations.val := by
  simp (disch := omega) only [State.routeState2, extractLsb'_append_eq_of_add_le, extractLsb'_append_eq_of_le]
  exact congrArg BitVec.toNat extractLsb'_eq_self

theorem State.routeState2_excluded (n : SourceId) : (s.routeState2 n).getLsbD 6 = (s.source n).exclusion.isSome := by
  simp only [State.routeState2, getLsbD_append]
  simp

theorem State.routeState2_exclusion {q : Port} (h : (s.source n).exclusion = some q) :
    ((s.routeState2 n).extractLsb' 7 2).toNat = q.val := by
  simp (disch := omega) only [State.routeState2, h, extractLsb'_append_eq_of_add_le, extractLsb'_append_eq_of_le]
  exact congrArg BitVec.toNat extractLsb'_eq_self

theorem State.routeState2_flags (n : SourceId) : (s.routeState2 n).extractLsb' 9 4 = (s.source n).flags.bits := by
  simp (disch := omega) only [State.routeState2, extractLsb'_append_eq_of_add_le, extractLsb'_append_eq_of_le]
  exact extractLsb'_eq_self

theorem State.routeState2_payloads (h : (s.source n).payloads.length ≤ 4) :
    ((s.routeState2 n).extractLsb' 13 3).toNat = (s.source n).payloads.length := by
  have hfield : (s.routeState2 n).extractLsb' 13 3 = .ofNat 3 (s.source n).payloads.length := by
    simp (disch := omega) only [State.routeState2, extractLsb'_append_eq_of_add_le, extractLsb'_append_eq_of_le]
    exact extractLsb'_eq_self
  rw [hfield, toNat_ofNat, Nat.mod_eq_of_lt (by omega)]

theorem State.routeState2_tag (n : SourceId) : (s.routeState2 n).extractLsb' 16 8 = (s.source n).tag := by
  simp (disch := omega) only [State.routeState2, extractLsb'_append_eq_of_add_le, extractLsb'_append_eq_of_le]
  exact extractLsb'_eq_self

theorem State.routeState2_fold (n : SourceId) : ((s.routeState2 n).extractLsb' 24 8).toNat = (s.source n).fold.val := by
  simp (disch := omega) only [State.routeState2, extractLsb'_append_eq_of_le]
  exact congrArg BitVec.toNat extractLsb'_eq_self

/-! ### STAGING 0, TICK DIVIDER and LIMIT0 to LIMIT3 -/

theorem Staging.showsRoute_word0 (g : Staging) :
    ShowsRoute g.word0 g.enable g.cls g.detection g.mode g.eligible g.limitIdx g.descPresent :=
  showsRoute_routeBits _ _ _ _ _ _ _ _

theorem Staging.word0_unused (g : Staging) : g.word0.extractLsb' 16 16 = 0 := by
  simp (disch := omega) only [Staging.word0, extractLsb'_append_eq_of_le]
  exact extractLsb'_eq_self

theorem State.statusRead_divider (h : s.divider ≤ 4096) : ∃ w, s.statusRead p 0x44 = some w ∧ w.toNat = s.divider :=
  ⟨_, rfl, by rw [toNat_ofNat, Nat.mod_eq_of_lt (by omega)]⟩

theorem State.statusRead_limit (i : Fin 4) :
    ∃ w, s.statusRead p (0x48 + BitVec.ofNat 8 (4 * i.val)) = some w ∧ w.toNat = s.limits[i].toNat := by
  refine ⟨0#16 ++ s.limits[i], ?_, ?_⟩
  · match i with
    | 0 | 1 | 2 | 3 => rfl
  · simp only [toNat_append]
    simp

/-! ### The words of the route registers -/

/-- Settles O58, word by word: each field of a word is the field that its layout puts there. -/
theorem routeStateLayouts : Obligations.RouteStateLayouts := by
  intro s p n e hpay haddr
  have hr := s.showsRoute_routeState0 n
  have hg := (s.port p).staging.showsRoute_word0
  obtain ⟨hdone, hfault, haborted, hreoffer⟩ := e.flags.getLsbD_bits
  have hflag (i : Nat) (hi : i < 4) := getLsbD_of_field (s.routeState2_flags n) hi
  have hstate : ((s.routeState2 n).extractLsb' 0 3).toNat = (stateCode e.state).toNat :=
    congrArg BitVec.toNat (State.routeState2_state n)
  refine ⟨⟨s.routeState0 n, rfl, hr.enable, hr.cls, ?_, ?_, fun q => getLsbD_of_field hr.eligible q.isLt, hr.limitIdx,
      hr.present, State.routeState0_source n, State.routeState0_claimed n, fun c => State.routeState0_holder,
      State.routeState0_unused n⟩,
    congrArg some (State.routeState1_eq haddr),
    ⟨s.routeState2 n, rfl, hstate.trans (toNat_stateCode _), State.routeState2_again n, State.routeState2_revocations n,
      State.routeState2_excluded n, fun q => State.routeState2_exclusion, (hflag 0 (by decide)).trans hdone,
      (hflag 1 (by decide)).trans hfault, (hflag 2 (by decide)).trans haborted, (hflag 3 (by decide)).trans hreoffer,
      State.routeState2_payloads hpay, State.routeState2_tag n, State.routeState2_fold n⟩,
    ⟨_, rfl, hg.enable, hg.cls, ?_, ?_, hg.eligible, hg.limitIdx, hg.present, Staging.word0_unused _⟩,
    rfl, State.statusRead_divider, State.statusRead_limit⟩
  · rw [hr.detection]; exact toNat_detectionCode _
  · rw [hr.mode]; exact toNat_modeCode _
  · rw [hg.detection]; exact toNat_detectionCode _
  · rw [hg.mode]; exact toNat_modeCode _

end Sys2Proof.Machine
end

section
namespace Sys2Proof.Machine

variable {s : State} {v : Service} {w : Work} {d : Word}

/-! ### Address steps and completed units -/

theorem UnitSize.bytes_lt_word (u : UnitSize) : u.bytes < 2 ^ 32 := by cases u <;> decide

/-- UP adds the unit size modulo 2 to the power 32 (R138). -/
theorem toNat_stepAddr_up (u : UnitSize) (a : Word) : (stepAddr .up u a).toNat = (a.toNat + u.bytes) % 2 ^ 32 := by
  rw [stepAddr, BitVec.toNat_add, BitVec.toNat_ofNat, Nat.mod_eq_of_lt u.bytes_lt_word]

/-- DOWN subtracts the unit size modulo 2 to the power 32 (R138). -/
theorem toNat_stepAddr_down (u : UnitSize) (a : Word) :
    (stepAddr .down u a).toNat = (a.toNat + 2 ^ 32 - u.bytes) % 2 ^ 32 := by
  have hu := u.bytes_lt_word
  rw [stepAddr, BitVec.toNat_sub, BitVec.toNat_ofNat, Nat.mod_eq_of_lt hu]
  congr 1
  omega

/-- Settles O49. -/
theorem addressSteps : Obligations.AddressSteps :=
  ⟨fun u a => ⟨rfl, toNat_stepAddr_up u a, toNat_stepAddr_down u a⟩, fun _ _ _ h => stepAddr_aligned h,
    fun _ => ⟨rfl, rfl⟩⟩

/-- A completed unit lowers a remaining count that is not 0 by 1 (R137). -/
theorem Work.toNat_count_completeUnit (h : 1 ≤ w.count.toNat) : w.completeUnit.count.toNat = w.count.toNat - 1 :=
  BitVec.toNat_sub_of_le (x := w.count) (y := 1) h

/-! ### The low bits of a word -/

/-- Masking a word with ones keeps its low bits. -/
theorem toNat_and_lowOnes (a : Word) {k : Nat} (hk : k ≤ 32) :
    (a &&& BitVec.ofNat 32 (2 ^ k - 1)).toNat = a.toNat % 2 ^ k := by
  have hlt : 2 ^ k - 1 < 2 ^ 32 := by
    have := Nat.pow_le_pow_right (n := 2) (by decide) hk
    omega
  rw [BitVec.toNat_and, BitVec.toNat_ofNat, Nat.mod_eq_of_lt hlt, Nat.and_two_pow_sub_one_eq_mod]

/-- A unit is the low bytes of the answer's data (log entry 11). -/
theorem UnitSize.toNat_data (u : UnitSize) (a : Word) : (u.data a).toNat = a.toNat % 2 ^ (8 * u.bytes) := by
  cases u with
  | one => exact toNat_and_lowOnes a (k := 8) (by decide)
  | two => exact toNat_and_lowOnes a (k := 16) (by decide)
  | four => exact (Nat.mod_eq_of_lt a.isLt).symm

/-- The address of a link is its word with bits 3:0 taken as 0 (R192). -/
theorem linkOf_eq (a : Word) :
    linkOf a = if a.getLsbD 0 then some (a - BitVec.ofNat 32 (a.toNat % 16)) else none := by
  have hlow : a &&& 0xF#32 = BitVec.ofNat 32 (a.toNat % 16) := BitVec.eq_of_toNat_eq <| by
    rw [BitVec.toNat_ofNat, Nat.mod_eq_of_lt (a := a.toNat % 16) (by omega)]
    exact toNat_and_lowOnes a (k := 4) (by decide)
  have hdisjoint : (a &&& 0xFFFFFFF0#32) &&& (a &&& 0xF#32) = 0#32 := by
    rw [show (a &&& 0xFFFFFFF0#32) &&& (a &&& 0xF#32) = a &&& a &&& (0xFFFFFFF0#32 &&& 0xF#32) by ac_rfl]
    exact BitVec.and_zero
  have hsplit : (a &&& 0xFFFFFFF0#32) + (a &&& 0xF#32) = a := by
    rw [BitVec.add_eq_or_of_and_eq_zero _ _ hdisjoint, ← BitVec.and_or_distrib_left]
    exact BitVec.and_allOnes
  rw [← hlow, linkOf, eq_sub_of_add_eq hsplit]

/-! ### The descriptor check -/

theorem unitOfCode_eq_none {k : BitVec 2} : unitOfCode k = none ↔ k.toNat = 3 := by
  revert k; decide

theorem stepOfCode_eq_none {k : BitVec 2} : stepOfCode k = none ↔ k.toNat = 3 := by
  revert k; decide

theorem policyOfCode_eq_none {k : BitVec 2} : policyOfCode k = none ↔ k.toNat = 3 := by
  revert k; decide

/-- A unit-size code other than 3 names the size of 2 to the power of the code bytes (Table 10-12). -/
theorem unitOfCode_eq_some {k : BitVec 2} (h : k.toNat ≠ 3) :
    ∃ u, unitOfCode k = some u ∧ u.bytes = 2 ^ k.toNat := by
  match k with
  | 0 => exact ⟨.one, rfl, rfl⟩
  | 1 => exact ⟨.two, rfl, rfl⟩
  | 2 => exact ⟨.four, rfl, rfl⟩
  | 3 => exact absurd rfl h

theorem stepOfCode_eq_some {k : BitVec 2} (h : k.toNat ≠ 3) :
    stepOfCode k = some ([AddrStep.fixed, .up, .down].getD k.toNat .fixed) := by
  revert k; decide

theorem policyOfCode_eq_some {k : BitVec 2} (h : k.toNat ≠ 3) :
    policyOfCode k = some ([HandOnPolicy.burst, .descriptor, .chain].getD k.toNat .burst) := by
  revert k; decide

/-- The working record of a descriptor whose control word is valid and names unit size `u` (Table 10-12). -/
def fetchedWork (u : UnitSize) (c x y l : Word) : Work where
  control := c
  unit := u
  srcStep := [AddrStep.fixed, .up, .down].getD (srcStepField c).toNat .fixed
  dstStep := [AddrStep.fixed, .up, .down].getD (dstStepField c).toNat .fixed
  policy := [HandOnPolicy.burst, .descriptor, .chain].getD (policyField c).toNat .burst
  link := linkOf l
  src := x
  dst := y
  count := countField c
  left := min (burstField c) (countField c).toNat

/-- The codes of a control word name a unit size, two steps and a policy (Table 10-12). -/
structure CodesValid (c : Word) : Prop where
  unit    : (unitField c).toNat ≠ 3
  srcStep : (srcStepField c).toNat ≠ 3
  dstStep : (dstStepField c).toNat ≠ 3
  policy  : (policyField c).toNat ≠ 3

section Check
variable {c x y l : Word}

theorem checkDescriptor_badUnit (h : (unitField c).toNat = 3) : checkDescriptor c x y l = .error .badUnit := by
  simp only [checkDescriptor, unitOfCode_eq_none.mpr h]

theorem checkDescriptor_badStep (hunit : (unitField c).toNat ≠ 3)
    (h : (srcStepField c).toNat = 3 ∨ (dstStepField c).toNat = 3) : checkDescriptor c x y l = .error .badStep := by
  obtain ⟨u, hu, -⟩ := unitOfCode_eq_some hunit
  simp only [checkDescriptor, hu]
  split
  · next hsrc hdst => simp [← stepOfCode_eq_none, hsrc, hdst] at h
  · rfl

theorem checkDescriptor_badPolicy (hunit : (unitField c).toNat ≠ 3) (hsrc : (srcStepField c).toNat ≠ 3)
    (hdst : (dstStepField c).toNat ≠ 3) (h : (policyField c).toNat = 3) :
    checkDescriptor c x y l = .error .badPolicy := by
  obtain ⟨u, hu, -⟩ := unitOfCode_eq_some hunit
  simp only [checkDescriptor, hu, stepOfCode_eq_some hsrc, stepOfCode_eq_some hdst, policyOfCode_eq_none.mpr h]

namespace CodesValid

/-- With the codes valid, the burst, the count and the two addresses are checked in this order (R136). -/
theorem check (h : CodesValid c) (x y l : Word) : ∃ u : UnitSize, u.bytes = 2 ^ (unitField c).toNat ∧
    checkDescriptor c x y l =
      if burstField c = 0 ∨ 16 < burstField c then .error .badBurst
      else if countField c = 0 then .error .zeroCount
      else if x.toNat % 2 ^ (unitField c).toNat ≠ 0 then .error .misalignedSource
      else if y.toNat % 2 ^ (unitField c).toNat ≠ 0 then .error .misalignedDestination
      else .ok (fetchedWork u c x y l) := by
  obtain ⟨u, hu, hbytes⟩ := unitOfCode_eq_some h.unit
  refine ⟨u, hbytes, ?_⟩
  simp only [checkDescriptor, fetchedWork, hu, stepOfCode_eq_some h.srcStep, stepOfCode_eq_some h.dstStep,
    policyOfCode_eq_some h.policy, hbytes]

theorem badBurst (h : CodesValid c) (hb : burstField c = 0 ∨ 16 < burstField c) :
    checkDescriptor c x y l = .error .badBurst := by
  obtain ⟨u, -, hcheck⟩ := h.check x y l
  rw [hcheck, if_pos hb]

theorem zeroCount (h : CodesValid c) (hb : 1 ≤ burstField c ∧ burstField c ≤ 16) (hc : (countField c).toNat = 0) :
    checkDescriptor c x y l = .error .zeroCount := by
  obtain ⟨u, -, hcheck⟩ := h.check x y l
  rw [hcheck, if_neg (by omega), if_pos (BitVec.eq_of_toNat_eq hc)]

/-- With the burst and the count valid too, the two addresses are left to check (R136). -/
theorem checkAddresses (h : CodesValid c) (hb : 1 ≤ burstField c ∧ burstField c ≤ 16) (hc : (countField c).toNat ≠ 0)
    (x y l : Word) : ∃ u : UnitSize, u.bytes = 2 ^ (unitField c).toNat ∧
    checkDescriptor c x y l =
      if x.toNat % 2 ^ (unitField c).toNat ≠ 0 then .error .misalignedSource
      else if y.toNat % 2 ^ (unitField c).toNat ≠ 0 then .error .misalignedDestination
      else .ok (fetchedWork u c x y l) := by
  have hcount : countField c ≠ 0 := fun hz => hc (congrArg BitVec.toNat hz)
  obtain ⟨u, hu, hcheck⟩ := h.check x y l
  rw [if_neg (by omega), if_neg hcount] at hcheck
  exact ⟨u, hu, hcheck⟩

end CodesValid

end Check

/-- Settles O46: the codes of the control word first, then the burst and the count, then the two addresses. -/
theorem descriptorCheckInOrder : Obligations.DescriptorCheckInOrder := by
  intro c x y l unit srcStep dstStep burst policy count bytes good1 good2 good3 good4 good5 good6 good7
  have hcodes : good3 → CodesValid c := fun ⟨⟨hunit, hsrc, hdst⟩, hpolicy⟩ => ⟨hunit, hsrc, hdst, hpolicy⟩
  have haddresses : good5 → _ := fun ⟨⟨h3, hb⟩, hc⟩ => (hcodes h3).checkAddresses hb hc x y l
  refine ⟨checkDescriptor_badUnit, fun ⟨hunit, hstep⟩ => checkDescriptor_badStep hunit hstep,
    fun ⟨⟨hunit, hsrc, hdst⟩, hpolicy⟩ => checkDescriptor_badPolicy hunit hsrc hdst hpolicy,
    fun ⟨h3, hb⟩ => (hcodes h3).badBurst hb, fun ⟨⟨h3, hb⟩, hc⟩ => (hcodes h3).zeroCount hb hc, ?_, ?_, ?_⟩
  · rintro ⟨h5, hx⟩
    obtain ⟨u, -, hcheck⟩ := haddresses h5
    exact hcheck.trans (if_pos hx)
  · rintro ⟨⟨h5, hx⟩, hy⟩
    obtain ⟨u, -, hcheck⟩ := haddresses h5
    exact hcheck.trans ((if_neg (not_not_intro hx)).trans (if_pos hy))
  · rintro ⟨⟨h5, hx⟩, hy⟩
    obtain ⟨u, hu, hcheck⟩ := haddresses h5
    exact ⟨fetchedWork u c x y l, hcheck.trans ((if_neg (not_not_intro hx)).trans (if_neg (not_not_intro hy))),
      rfl, hu, rfl, rfl, rfl, linkOf_eq l, rfl, rfl, rfl, rfl⟩

/-! ### MOVE -/

theorem State.handRecord_frame (r : FaultRecord) :
    s.handRecord r = { s with faults := (s.handRecord r).faults, dropped := (s.handRecord r).dropped } := by
  unfold State.handRecord
  split <;> rfl

/-- An answered unit read issues the write of the data read (R137). -/
theorem State.unitReadAnswer_completed (hv : s.service = some v) (hph : v.phase = .moveRead w) :
    s.unitReadAnswer (.completed d) = s.setPhase v (.moveWrite w (w.unit.data d)) := by
  simp only [State.unitReadAnswer, hv, hph]

theorem exec_unitReadAnswer_completed (hv : s.service = some v) (hph : v.phase = .moveRead w) :
    exec (.unitReadAnswer (.completed d)) s = .next (s.setPhase v (.moveWrite w (w.unit.data d))).updateAttention := by
  rw [exec_unitReadAnswer, State.unitReadAnswer_completed hv hph]

theorem State.unitReadAnswer_error (hv : s.service = some v) (hph : v.phase = .moveRead w) :
    s.unitReadAnswer .error = s.moveError v w .moveRead := by
  simp only [State.unitReadAnswer, hv, hph]

/-- Where a service goes once its unit is completed, the working record then being `w` (R137, R149). -/
def Service.phaseAfterUnit (v : Service) (w : Work) : Phase :=
  if w.left = 0 ∨ v.abort = true then .writeback w 0 else .moveRead w

/-- An answered unit write completes the unit (R137, R149). -/
theorem State.unitWriteAnswer_completed (hv : s.service = some v) (hph : v.phase = .moveWrite w d) :
    s.unitWriteAnswer .completed = s.setPhase v (v.phaseAfterUnit w.completeUnit) := by
  simp only [State.unitWriteAnswer, hv, hph, State.unitDone, Service.phaseAfterUnit]
  split <;> rfl

theorem exec_unitWriteAnswer_completed (hv : s.service = some v) (hph : v.phase = .moveWrite w d) :
    exec (.unitWriteAnswer .completed) s =
      .next (s.setPhase v (v.phaseAfterUnit w.completeUnit)).updateAttention := by
  rw [exec_unitWriteAnswer, State.unitWriteAnswer_completed hv hph]

theorem State.unitWriteAnswer_error (hv : s.service = some v) (hph : v.phase = .moveWrite w d) :
    s.unitWriteAnswer .error = s.moveError v w .moveWrite := by
  simp only [State.unitWriteAnswer, hv, hph]

/-- A unit answered with error hands its record and starts the writeback, nothing else changing (R144). -/
theorem State.moveError_frame (v : Service) (w : Work) (ph : BusPhase) :
    (s.moveError v w ph).updateAttention =
      { s with service := some { v with moveFault := true, phase := .writeback w 0 },
               faults := (s.handRecord (s.busErrorRecord v ph)).faults,
               dropped := (s.handRecord (s.busErrorRecord v ph)).dropped,
               attn := (s.moveError v w ph).updateAttention.attn } :=
  congrArg (fun t : State => { t with service := some { v with moveFault := true, phase := .writeback w 0 },
                                      attn := (s.moveError v w ph).updateAttention.attn })
    (State.handRecord_frame (s.busErrorRecord v ph))

/-- Settles O47, by the transaction whose answer comes. -/
theorem unitsAreMoved : Obligations.UnitsAreMoved := by
  intro s v w hv hleft record faulted
  have herror (c : Instr) (ph : BusPhase) (hx : exec c s = .next (s.moveError v w ph).updateAttention) :
      faulted c v.cycle.address ph :=
    ⟨_, hx, State.moveError_frame v w ph, ⟨rfl, rfl⟩, attnOk_updateAttention⟩
  refine ⟨fun hph => ⟨fun d => ?_, ?_⟩, fun d hph => ⟨?_, ?_⟩⟩
  · exact ⟨_, w.unit.data d, exec_unitReadAnswer_completed hv hph, State.serviceGoesOn_setPhase v _,
      w.unit.toNat_data d, State.memoryPort_setPhase v _⟩
  · have haddr : v.cycle.address = w.src := by rw [Service.cycle, hph]
    exact haddr ▸ herror _ _ (State.unitReadAnswer_error hv hph ▸ exec_unitReadAnswer s .error)
  · have hphase : v.phaseAfterUnit w.completeUnit =
        if w.left = 1 ∨ v.abort = true then .writeback w.completeUnit 0 else .moveRead w.completeUnit :=
      if_congr (or_congr_left (show w.left - 1 = 0 ↔ w.left = 1 by omega)) rfl rfl
    exact ⟨_, w.completeUnit, exec_unitWriteAnswer_completed hv hph, rfl, hphase ▸ State.serviceGoesOn_setPhase v _⟩
  · have haddr : v.cycle.address = w.dst := by rw [Service.cycle, hph]
    exact haddr ▸ herror _ _ (State.unitWriteAnswer_error hv hph ▸ exec_unitWriteAnswer s .error)

/-! ### A burst -/

theorem run_succ_of_step {M : Host.Core} {s t : M.State} (h : M.step s = .next t) (k : Nat) :
    M.run (k + 1) s = M.run k t := by
  rw [Host.Core.run, h]

/-- A run takes the command in front of the queue first. -/
theorem run_succ_of_pending {t : State} {c : Instr} {rest : List Instr} (hq : s.pending = c :: rest)
    (hx : exec c { s with pending := rest } = .next t) (k : Nat) :
    Host.Core.run Sys2Proof.core (k + 1) s = Host.Core.run Sys2Proof.core k t :=
  run_succ_of_step (M := Sys2Proof.core) ((frontCommandIsTaken s c rest hq).trans hx) k

/-- A unit read and its write, both answered without error, complete one unit in two steps (R137). -/
theorem run_unit {rest : List Instr} (hv : s.service = some v) (hph : v.phase = .moveRead w)
    (hq : s.pending = .unitReadAnswer (.completed d) :: .unitWriteAnswer .completed :: rest) :
    ∃ t : State, (∀ k, Host.Core.run Sys2Proof.core (k + 2) s = Host.Core.run Sys2Proof.core k t) ∧ t.pending = rest ∧
      t.service = some { v with phase := v.phaseAfterUnit w.completeUnit } := by
  obtain ⟨u, hread, hqu, hvu⟩ : ∃ u : State,
      exec (.unitReadAnswer (.completed d)) { s with pending := .unitWriteAnswer .completed :: rest } = .next u ∧
        u.pending = .unitWriteAnswer .completed :: rest ∧
        u.service = some { v with phase := .moveWrite w (w.unit.data d) } :=
    ⟨_, exec_unitReadAnswer_completed hv hph, rfl, rfl⟩
  have hwrite := exec_unitWriteAnswer_completed (s := { u with pending := rest }) hvu rfl
  exact ⟨_, fun k => (run_succ_of_pending hq hread (k + 1)).trans (run_succ_of_pending hqu hwrite k), rfl, rfl⟩

/-- Settles O48, by induction on the answers of the burst. -/
theorem burstMovesEveryUnit : Obligations.BurstMovesEveryUnit := by
  intro data
  induction data with
  | nil =>
    intro s v w rest hv hph ha hleft hcount hlen
    rw [List.length_nil] at hlen
    omega
  | cons d data ih =>
    intro s v w rest hv hph ha hleft hcount hlen hq
    obtain ⟨t, hrun, hq', hv'⟩ := run_unit hv hph hq
    have hlen' : data.length = w.completeUnit.left := Nat.eq_sub_of_add_eq hlen
    have hc := Work.toNat_count_completeUnit (w := w) (hleft.trans hcount)
    rw [show Host.Core.run Sys2Proof.core (2 * (d :: data).length) s = Host.Core.run Sys2Proof.core (2 * data.length) t
      from hrun (2 * data.length)]
    by_cases hlast : w.completeUnit.left = 0
    · obtain rfl : data = [] := List.eq_nil_of_length_eq_zero (hlen'.trans hlast)
      rw [Service.phaseAfterUnit, if_pos (.inl hlast)] at hv'
      exact ⟨t, w.completeUnit, rfl, hq', hv', hlast ▸ rfl, rfl, rfl, hc⟩
    · rw [Service.phaseAfterUnit, if_neg (by simp [hlast, ha])] at hv'
      have hcount' : w.completeUnit.left ≤ w.completeUnit.count.toNat := hc ▸ Nat.sub_le_sub_right hcount 1
      obtain ⟨t', w', hrest, hpend, hserv, hwork, hsrc, hdst, hn⟩ :=
        ih t _ w.completeUnit rest hv' rfl ha (Nat.one_le_iff_ne_zero.mpr hlast) hcount' hlen' hq'
      refine ⟨t', w', hrest, hpend, hserv, hwork, hsrc, hdst, ?_⟩
      rw [hn, hc, List.length_cons, Nat.sub_sub, Nat.add_comm]

/-! ### The start of a service -/

/-- The head source of the queue goes into service (R128). -/
theorem State.startService_starts {n : SourceId} {rest : List SourceId} {a : Word} (hidle : s.service = none)
    (hrun : s.running = true) (hq : s.engineQueue = n :: rest) (ha : (s.source n).route.descAddr = some a) :
    s.startService = { s.setSource n { s.source n with state := .engineActive } with
      engineQueue := rest
      service := some { src := n, descAddr := a, abort := false, moveFault := false, phase := .fetch0 } } := by
  simp [State.startService, hidle, hrun, hq, ha]

/-- No service starts (R128, R129, R132). -/
theorem State.startService_refused (h : s.service ≠ none ∨ s.running = false ∨ s.engineQueue = []) :
    s.startService = s := by
  unfold State.startService
  split
  · next hidle hrun hq => simp [hidle, hrun, hq] at h
  · rfl

/-- Settles O44. -/
theorem serviceStarts : Obligations.ServiceStarts := by
  intro s
  refine ⟨fun n rest a hidle hrun hq ha => ?_, fun h => ?_⟩
  · have hx := exec_serviceStart s
    rw [State.startService_starts hidle hrun hq ha] at hx
    exact ⟨_, hx, rfl, ⟨State.source_setSource_self s n _, fun m hm => State.source_setSource_ne s n m _ hm⟩, rfl⟩
  · rw [exec_serviceStart, State.startService_refused h]

/-! ### RUN, HALT and ABORT -/

theorem State.abortService_idle (h : s.service = none) : s.abortService = (s, .empty) := by
  simp only [State.abortService, h]

theorem State.abortService_marks (h : s.service = some v) :
    s.abortService = ({ s with service := some { v with abort := true } }, .ok) := by
  simp only [State.abortService, h]

/-- A command that is taken leaves the state and the code that its rule gives (R162). -/
theorem State.command_gives {t : State} {c : Instr} {p : Port} {a : Admission} {rule : State → State × Result}
    {code : Result} (ht : takesAccesses s p) (ha : s.refusal a p = none) (hr : rule s = (t, code)) :
    s.command c p a rule = .next (t.setResult p code) := by
  rw [State.command_taken ht ha, hr]

/-- Settles O19. -/
theorem runHaltAbort : Obligations.RunHaltAbort := by
  intro s p ht hon hlease
  have ha := (State.refusal_none s .leaseHolder p).mpr ⟨hon, hlease⟩
  have hport (t : State) (h : t.ports = s.ports) :
      PortBecomes s (t.setResult p .ok) p { s.port p with result := .ok } :=
    portBecomes_setResult (fun q => by simp only [State.port, h]) .ok
  exact ⟨⟨_, (exec_run s p).trans (State.command_gives ht ha rfl), rfl, hport { s with running := true } rfl⟩,
    ⟨_, (exec_halt s p).trans (State.command_gives ht ha rfl), rfl, hport { s with running := false } rfl⟩,
    fun hidle => State.command_answers ht ha (State.abortService_idle hidle),
    fun v hv => ⟨_, (exec_abort s p).trans (State.command_gives ht ha (State.abortService_marks hv)), rfl,
      hport { s with service := some { v with abort := true } } rfl⟩⟩

end Sys2Proof.Machine
end

section
namespace Sys2Proof.Machine

variable {s t u : State} {ns group : List SourceId} {e : SourceId → SourceEntry} {before : List FaultRecord}

/-! ### A group that returns to the backlog -/

/-- The UNSERVED check of a group sets the marks of its own sources that are found unserved (R63). -/
theorem State.source_foldl_unservedCheck (hnd : ns.Nodup) (m : SourceId) :
    (ns.foldl State.unservedCheck s).source m = { s.source m with
      unserved := (s.source m).unserved || (decide (m ∈ ns) && unservedDue s (s.source m)) } := by
  induction ns generalizing s with
  | nil => simp
  | cons n ns ih =>
    obtain ⟨hn, hnd⟩ := List.nodup_cons.mp hnd
    have hone : Enters s (s.unservedCheck n) n (s.source n) s.backlog [] := StaysOut.rfl_source.enters s.backlog
    have hdue := (OffBooks.unservedCheck (s := s) n).unservedDue
    rw [List.foldl_cons, ih hnd, hdue]
    by_cases hm : m = n
    · subst hm
      simp [hn, hone.source.source, hdue]
    · simp [hm, hone.source.others m hm]

/-- The UNSERVED check of a group hands the records of the sources found unserved, in the group's order (R48, R65). -/
theorem State.recordsHanded_foldl_unservedCheck (hnd : ns.Nodup) :
    RecordsHanded s (ns.foldl State.unservedCheck s)
      ((ns.filter fun n => unservedDue s (s.source n)).map fun n => unservedRecord n (s.source n)) := by
  induction ns generalizing s with
  | nil => exact RecordsHanded.refl rfl rfl
  | cons n ns ih =>
    obtain ⟨hn, hnd⟩ := List.nodup_cons.mp hnd
    have hsrc : ∀ m ∈ ns, (s.unservedCheck n).source m = s.source m := fun m hm => by
      rw [State.source_unservedCheck, if_neg (by rintro rfl; exact hn hm)]
    have hrest := ih (s := s.unservedCheck n) hnd
    rw [List.filter_congr (q := fun m => unservedDue s (s.source m)) fun m hm => by
        rw [hsrc m hm, (OffBooks.unservedCheck n).unservedDue],
      List.map_congr_left (g := fun m => unservedRecord m (s.source m)) fun m hm => by
        rw [hsrc m (List.mem_of_mem_filter hm)]] at hrest
    have hall := (State.recordsHanded_unservedCheck n).append hrest
    cases hdue : unservedDue s (s.source n) <;> simpa [hdue] using hall

/-- A group put at the front of its bands returns as R48 says, where its entries and the records ahead are written. -/
theorem State.groupReturns_enterFront (hasc : group.Pairwise (· < ·)) (hback : u.backlog = s.backlog)
    (hsrc : ∀ n, u.source n = e n) (hrec : RecordsHanded s u before) :
    GroupReturns s (u.enterFront group) group e before := by
  have hnd : group.Nodup := hasc.imp ne_of_lt
  have hdue := (OffBooks.enterFront (s := u) group).unservedDue
  let v : State :=
    { u with backlog := group.foldr (fun n b => insertFront BacklogEntry.cls (u.entryFor n) b) u.backlog }
  refine ⟨hasc, ?_, fun n => ?_, ?_⟩
  · simp only [State.enterFront_backlog, State.entryFor, hsrc, hback]
  · rw [hdue, ← hsrc n]
    exact State.source_foldl_unservedCheck (s := v) hnd n
  · have hchecks := State.recordsHanded_foldl_unservedCheck (s := v) hnd
    have hv : ∀ n, v.source n = e n := hsrc
    have hdue' : ∀ x, unservedDue v x = unservedDue u x := fun _ => rfl
    simp only [hv, hdue'] at hchecks
    simp only [hdue]
    exact hrec.append (hchecks.congr_left rfl rfl)

theorem GroupReturns.congr (h : GroupReturns s t group e before) (ht : SameBooks t u) :
    GroupReturns s u group e before where
  ascending := h.ascending
  backlog := ht.backlog.trans h.backlog
  sources n := by rw [ht.source, h.sources, ht.unservedDue]
  records := by simpa only [ht.unservedDue] using h.records.congr ht

theorem GroupReturns.congr_left (h : GroupReturns s t group e before) (hb : u.backlog = s.backlog)
    (hf : u.faults = s.faults) (hd : u.dropped = s.dropped) : GroupReturns u t group e before where
  ascending := h.ascending
  backlog := by rw [h.backlog, hb]
  sources := h.sources
  records := h.records.congr_left hf hd

/-! #### What an update of the books leaves -/

theorem OffBooks.lease (h : OffBooks s t) : t.lease = s.lease := by rw [h]

theorem OffBooks.portResets (h : OffBooks s t) : t.portResets = s.portResets := by rw [h]

/-- A command writes the settings of its own port and leaves its code there (R162). -/
theorem portBecomes_modPort {p : Port} {f : PortRegs → PortRegs} (h : t.ports = (s.modPort p f).ports) (code : Result) :
    PortBecomes s (t.setResult p code) p { f (s.port p) with result := code } := by
  have hport (q : Port) : t.port q = (s.modPort p f).port q := by simp only [State.port, h]
  refine ⟨?_, fun q hq => ?_⟩
  · rw [State.port_setResult_self, hport, State.port_modPort_self]
  · rw [State.port_setResult_ne t p q code hq, hport, State.port_modPort_ne s p q f hq]

end Sys2Proof.Machine
end

section
namespace Sys2Proof.Machine

variable {s t u : State} {p : Port} {n : SourceId}

/-! ### Offers withdrawn by LEAVE and by the reset of a port -/

/-- A source returns when its offer at the port is withdrawn, unless it is CONTEST and has an offer elsewhere (R77, R78). -/
theorem State.returnsFrom_iff : s.returnsFrom p n = true ↔ s.hasOffer p n = true ∧
    ((s.source n).route.mode = .contest → ∀ q, q ≠ p → s.hasOffer q n = false) := by
  simp [State.returnsFrom, allPorts, or_iff_not_imp_left]

theorem withdrawalExclusion_eq (e : SourceEntry) (p : Port) :
    withdrawalExclusion e p = if e.route.mode = .contest then e.exclusion else some p := by
  simp [withdrawalExclusion]

/-- The sources of a group taken from `allSources` stand in ascending order (R48). -/
theorem allSources_filter_ascending (which : SourceId → Bool) : (allSources.filter which).Pairwise (· < ·) :=
  (List.pairwise_lt_finRange 64).filter which

/-! ### LEAVE -/

theorem State.leavePort_online (h : (s.port p).state = .online) : s.leavePort p =
    (((s.withdrawPort p).enterFront (allSources.filter (s.returnsFrom p))).updateAttention, .ok) :=
  if_pos (beq_iff_eq.mpr h)

theorem State.leavePort_draining (h : (s.port p).state = .draining) : s.leavePort p = (s, .ok) :=
  if_neg (by simp [State.online, h])

theorem State.leftState_eq : s.leftState p = if ∀ n, s.holds p n = false then .offline else .draining := by
  simp only [State.leftState, State.claimCount_eq_zero]

theorem State.entryAtLeave_eq : s.entryAtLeave p n =
    if n ∈ allSources.filter (s.returnsFrom p) then
      { s.source n with
        state := .latched, flags := { (s.source n).flags with reoffer := true }
        exclusion := if (s.source n).route.mode = .contest then (s.source n).exclusion else some p }
    else s.source n := by
  simp only [State.entryAtLeave, State.mem_returning, SourceEntry.reenter, HandOnFlags.withReoffer,
    withdrawalExclusion_eq]

/-- Settles O14, by the state in which LEAVE finds the port. -/
theorem leaveWithdrawsOffers : Obligations.LeaveWithdrawsOffers := by
  intro s p ht
  have hadmit (hst : (s.port p).state ≠ .offline) : s.refusal .notOffline p = none :=
    (State.refusal_none s .notOffline p).mpr hst
  refine ⟨fun hst => State.command_answers ht (hadmit (by simp [hst])) (State.leavePort_draining hst), fun hst => ?_⟩
  let group := allSources.filter (s.returnsFrom p)
  let u := (s.withdrawPort p).enterFront group
  have hoff : OffBooks (s.withdrawPort p) u := OffBooks.enterFront group
  have hqueue (q : Port) : u.queue q = (s.setQueue p []).queue q := State.enterFront_queue (s.withdrawPort p) group q
  refine ⟨u.updateAttention.setResult p .ok, group,
    (exec_leave s p).trans (State.command_gives ht (hadmit (by simp [hst])) (State.leavePort_online hst)), ?_,
    fun n => State.mem_returning.trans State.returnsFrom_iff, ?_, ?_, fun q hq => ?_, ?_, ?_,
    attnOk_commandEnd p .ok⟩
  · rw [show (u.updateAttention.setResult p .ok).offers = s.offers.set p [] from hoff.offers,
      show (u.updateAttention.setResult p .ok).lease = _ from hoff.lease]
    exact (hoff.trans OffBooks.updateAttention).setResult p .ok
  · refine GroupReturns.congr ?_ (SameBooks.commandEnd p .ok)
    exact State.groupReturns_enterFront (allSources_filter_ascending _) rfl
      (fun n => (State.source_withdrawPort p n).trans State.entryAtLeave_eq) (RecordsHanded.refl rfl rfl)
  · exact (hqueue p).trans (State.queue_setQueue_self s p [])
  · exact (hqueue q).trans (State.queue_setQueue_ne s p q [] hq)
  · exact hoff.lease
  · rw [← State.leftState_eq]
    exact portBecomes_modPort (t := u.updateAttention) (f := fun r => { r with state := s.leftState p }) hoff.ports .ok

end Sys2Proof.Machine
end

section
namespace Sys2Proof.Machine

variable {s t u : State} {p : Port} {n : SourceId}

/-! ### The reset of a port -/

/-- PRSTn asserted leaves every other PRSTn at its level (R161). -/
theorem State.portResets_setPortReset_eq (q : Port) :
    (s.setPortReset p true).portResets[q] = (decide (q = p) || s.portResets[q]) := by
  rw [State.portResets_setPortReset]
  by_cases hq : q = p
  · simp [hq]
  · simp [hq, Ne.symm hq]

theorem exec_portReset_held (h : s.portResets[p] = true) : exec (.portReset ⟨p, true⟩) s = .next s := by
  rw [exec_portReset]
  exact congrArg Host.Outcome.next (if_pos h)

theorem exec_portReset_underReset (h : s.portResets[p] = false) (hn : s.resetNote ≠ none) :
    exec (.portReset ⟨p, true⟩) s = .next (s.setPortReset p true) := by
  rw [exec_portReset]
  simp [State.assertPortReset, h, Option.isSome_iff_ne_none.mpr hn]

theorem exec_portReset_taken (ht : takesAccesses s p) :
    exec (.portReset ⟨p, true⟩) s = .next ((s.setPortReset p true).resetPort p) := by
  rw [exec_portReset]
  simp [State.assertPortReset, ht.1, ht.2]

/-- The PORT_RESET record of a reset that revokes claims (R160). -/
def State.portResetRecords (s : State) (p : Port) : List FaultRecord :=
  if s.claimCount p = 0 then [] else [portResetRecord p (s.claimCount p)]

/-- The reset of a port before its backlog entries. -/
def State.portCleared (s : State) (p : Port) : State := (s.portResetRecords p).foldl State.handRecord (s.clearPort p)

theorem State.resetPort_eq (p : Port) :
    s.resetPort p = ((s.portCleared p).enterFront (s.portResetGroup p)).updateAttention := by
  unfold State.resetPort State.portCleared State.portResetRecords
  split <;> rfl

theorem State.offBooks_resetPort (p : Port) : OffBooks (s.clearPort p) (s.resetPort p) := by
  rw [State.resetPort_eq]
  exact ((OffBooks.foldl_handRecord _).trans (OffBooks.enterFront _)).trans OffBooks.updateAttention

/-- The sources of a port that is reset return as R48 says, behind its PORT_RESET record (R160). -/
theorem State.groupReturns_resetPort (p : Port) :
    GroupReturns s (s.resetPort p) (s.portResetGroup p) (s.entryAtPortReset p) (s.portResetRecords p) := by
  rw [State.resetPort_eq]
  refine GroupReturns.congr ?_ SameBooks.updateAttention
  exact State.groupReturns_enterFront (allSources_filter_ascending _) (State.foldl_handRecord_backlog _)
    (fun n => (State.foldl_handRecord_source _ _).trans (State.source_clearPort p n))
    ((recordsHanded_foldl (s := s.clearPort p) _).congr_left rfl rfl)

/-- The members of the group, where no claimed source has an offer. -/
theorem State.mem_portResetGroup_iff (hclaimed : ∀ n c q, s.claimOf n = some c → s.hasOffer q n = false) :
    n ∈ s.portResetGroup p ↔ (s.holds p n = true ∧ (s.source n).route.enable = true) ∨
      (s.hasOffer p n = true ∧ ((s.source n).route.mode = .contest → ∀ q, q ≠ p → s.hasOffer q n = false)) := by
  rw [State.mem_portResetGroup, State.returnsFrom_iff]
  cases hc : s.claimOf n with
  | none => simp [State.holds, hc]
  | some c => simp [State.holds, hc, hclaimed n c p hc]

/-- The entry with which a source returns at the reset of port `p` (R110, R77). -/
def State.returnedBy (s : State) (p : Port) (n : SourceId) : SourceEntry :=
  match s.claimOf n with
  | some c => { s.source n with
      state := .latched, exclusion := some p, flags := { (s.source n).flags with reoffer := true },
      payloads := c.payload.toList ++ (s.source n).payloads, fold := satAdd (s.source n).fold c.fold }
  | none => { s.source n with
      state := .latched, flags := { (s.source n).flags with reoffer := true },
      exclusion := if (s.source n).route.mode = .contest then (s.source n).exclusion else some p }

theorem State.entryAtPortReset_eq : s.entryAtPortReset p n =
    if n ∈ s.portResetGroup p then s.returnedBy p n
    else if s.holds p n then enteredDisabled (s.source n) else s.source n := by
  cases hc : s.claimOf n with
  | none =>
    simp [State.entryAtPortReset_unclaimed hc, State.mem_portResetGroup, State.returnedBy, State.holds, hc,
      SourceEntry.reenter, HandOnFlags.withReoffer, withdrawalExclusion_eq]
  | some c =>
    by_cases hcp : c.port = p <;> cases hen : (s.source n).route.enable <;>
      simp [State.entryAtPortReset_claimed hc, State.mem_portResetGroup, State.returnedBy, State.holds, hc, hcp, hen,
        SourceEntry.reenter, SourceEntry.restore, HandOnFlags.withReoffer, enteredDisabled_eq]

/-- Settles O38, by the levels that the assertion of PRSTn finds. -/
theorem portResetRevokesAndWithdraws : Obligations.PortResetRevokesAndWithdraws := by
  intro s p
  refine ⟨exec_portReset_held, fun hp hn => ⟨_, exec_portReset_underReset hp hn, rfl,
    State.portResets_setPortReset_eq⟩, fun ht hclaimed => ?_⟩
  intro returned revoked
  let u := s.setPortReset p true
  let t := u.resetPort p
  have hoff : OffBooks (u.clearPort p) t := State.offBooks_resetPort p
  have hport (q : Port) : t.port q = (s.modPort p fun _ => .default).port q := hoff.port q
  have hqueue (q : Port) : t.queue q = (s.setQueue p []).queue q := congrArg (·[q]) hoff.offers
  refine ⟨t, s.portResetGroup p, exec_portReset_taken ht, ?frame, fun q => ?level,
    fun n => State.mem_portResetGroup_iff hclaimed, ?group, fun n => State.claimOf_resetPort p n, ?queue,
    fun q hq => ?queues, hoff.lease, ⟨?port, fun q hq => ?ports⟩, ?attn⟩
  case frame =>
    rw [hoff.offers, hoff.claims, hoff.ports, hoff.lease, hoff.portResets]
    exact hoff
  case level =>
    rw [hoff.portResets]
    exact State.portResets_setPortReset_eq q
  case group =>
    have hret := (State.groupReturns_resetPort (s := u) p).congr_left (u := s) rfl rfl rfl
    have hentry : u.entryAtPortReset p = fun n => if n ∈ s.portResetGroup p then returned n
        else if s.holds p n then enteredDisabled (s.source n) else s.source n :=
      funext fun n => State.entryAtPortReset_eq (s := s)
    rw [hentry] at hret
    exact hret
  case queue => exact (hqueue p).trans (State.queue_setQueue_self s p [])
  case queues => exact (hqueue q).trans (State.queue_setQueue_ne s p q [] hq)
  case port => rw [hport, State.port_modPort_self]
  case ports => rw [hport, State.port_modPort_ne s p q _ hq]
  case attn =>
    rw [show t = _ from State.resetPort_eq p]
    exact attnOk_updateAttention

end Sys2Proof.Machine
end

section
namespace Sys2Proof.Machine

variable {s t u : State} {c : Instr} {p : Port} {row : Admission}

/-! ### Every access at its port, every command in its row of Table 8-3 -/

theorem exec_of_commandRow (h : commandRow c = some (p, row)) :
    ∃ rule : State → State × Result, ∀ s, exec c s = s.command c p row rule := by
  cases c
  case join | leave | leaseTake | leaseDrop | routeSelect | staging0 | staging1 | routeCommit | disable | resume | post
      | unpost | complete | returnClaim | extend | floor | faultWatch | tickDivider | limit | run | halt | abort =>
    cases h
    exact ⟨_, fun _ => rfl⟩
  all_goals cases h

theorem accessPort_of_commandRow (h : commandRow c = some (p, row)) : accessPort c = some p := by
  cases c <;> cases h <;> rfl

/-- Every access that a well-formed term spells asks first whether its port takes accesses (R161, R162, R184). -/
theorem exec_of_accessPort (h : accessPort c = some p) (hwf : c.wellFormed = true) :
    ∃ take : State → State, exec c s = s.orHold c p take := by
  cases hrow : commandRow c with
  | some pr =>
    obtain ⟨q, row⟩ := pr
    obtain rfl : q = p := Option.some.inj ((accessPort_of_commandRow hrow).symm.trans h)
    obtain ⟨rule, hexec⟩ := exec_of_commandRow hrow
    exact ⟨_, hexec s⟩
  | none =>
    cases c
    case claim | fault =>
      cases h
      exact ⟨_, rfl⟩
    case narrowTakeRead reg enables =>
      cases h
      exact ⟨_, exec_narrowTakeRead s p reg enables⟩
    case undefinedAccess a =>
      cases h
      exact ⟨_, (exec_undefinedAccess s p a).trans (if_pos hwf)⟩
    case powerOn | partReset | resetRelease | portReset | lineChange | placement | tick | expiry | serviceStart
        | fetchAnswer | unitReadAnswer | unitWriteAnswer | writebackAnswer => cases h
    all_goals cases hrow

/-- Settles O9. -/
theorem accessHeldWhileReset : Obligations.AccessHeldWhileReset := by
  intro s c p hreset hport hwf
  obtain ⟨take, hexec⟩ := exec_of_accessPort (s := s) hport hwf
  rw [hexec, State.orHold_held]
  simpa [State.holding, Option.isSome_iff_ne_none] using hreset

/-! ### The refusals of Table 8-3 -/

theorem State.refusal_offline (h : (s.port p).state = .offline) (hrow : row ≠ .anyState) :
    s.refusal row p = some .offline := by
  cases row <;> simp_all [State.refusal]

theorem State.refusal_draining (h : (s.port p).state = .draining) (hrow : row = .onlineOnly ∨ row = .leaseHolder) :
    s.refusal row p = some .notOnline := by
  rcases hrow with rfl | rfl <;> simp [State.refusal, h]

theorem State.refusal_nolease (h : (s.port p).state = .online) (hlease : s.lease ≠ some p) :
    s.refusal .leaseHolder p = some .nolease := by
  simp [State.refusal, h, hlease]

/-- A command that its row refuses answers in RESULT alone (R163, R164). -/
theorem exec_refused {code : Result} (ht : takesAccesses s p) (hrow : commandRow c = some (p, row))
    (hcode : s.refusal row p = some code) : ∃ t, exec c s = .next t ∧ OnlyResult s t p code := by
  obtain ⟨rule, hexec⟩ := exec_of_commandRow hrow
  exact ⟨_, (hexec s).trans (State.command_refused s c p row rule code ((State.holding_eq_false s p).mpr ht) hcode),
    State.onlyResult_setResult p code⟩

/-- Settles O10, by the reason of the refusal. -/
theorem refusedCommandChangesOnlyResult : Obligations.RefusedCommandChangesOnlyResult := by
  intro s c p row ht hrow
  exact ⟨fun hst hany => exec_refused ht hrow (State.refusal_offline hst hany),
    fun hst hneeds => exec_refused ht hrow (State.refusal_draining hst hneeds),
    fun hst hholder hlease => exec_refused ht hrow (hholder ▸ State.refusal_nolease hst hlease)⟩

end Sys2Proof.Machine
end

section
namespace Sys2Proof.Machine

variable {s t : State} {p : Port} {n : SourceId}

/-! ### The settings of the writing port -/

theorem State.refusal_onlineOnly (h : (s.port p).state = .online) : s.refusal .onlineOnly p = none :=
  (State.refusal_none s .onlineOnly p).mpr h

section
variable {c : Instr} {a : Admission} {rule : State → State × Result} {f : PortRegs → PortRegs}

/-- A command that is taken writes settings of its own port with OK. -/
theorem State.command_writesPort (ht : takesAccesses s p) (ha : s.refusal a p = none)
    (hr : rule s = (s.modPort p f, .ok)) : ∃ t, s.command c p a rule = .next t ∧ t = { s with ports := t.ports } ∧
      PortBecomes s t p { f (s.port p) with result := .ok } :=
  ⟨_, State.command_gives ht ha hr, rfl, portBecomes_modPort rfl .ok⟩

/-- A command that is taken writes settings of its own port with OK, and the attention outputs follow (R86). -/
theorem State.command_writesPort_attention (ht : takesAccesses s p) (ha : s.refusal a p = none)
    (hr : rule s = ((s.modPort p f).updateAttention, .ok)) : ∃ t, s.command c p a rule = .next t ∧
      t = { s with ports := t.ports, attn := t.attn } ∧
      PortBecomes s t p { f (s.port p) with result := .ok } ∧ AttnOk t :=
  ⟨_, State.command_gives ht ha hr, rfl, portBecomes_modPort (t := (s.modPort p f).updateAttention) rfl .ok,
    attnOk_commandEnd p .ok⟩

end

/-- Settles O13. -/
theorem joinTakesPortOnline : Obligations.JoinTakesPortOnline := by
  intro s p ht
  exact (State.command_writesPort_attention (c := .join p) (rule := State.joinPort p) ht
    ((State.refusal_none s .anyState p).mpr trivial) rfl :)

/-! ### The lease -/

theorem State.takeLease_free (h : s.lease = none) : s.takeLease p = ({ s with lease := some p }, .ok) := by
  simp only [State.takeLease, h]

theorem State.takeLease_own (h : s.lease = some p) : s.takeLease p = (s, .ok) := by
  simp [State.takeLease, h]

theorem State.takeLease_foreign {q : Port} (h : s.lease = some q) (hq : q ≠ p) : s.takeLease p = (s, .leased) := by
  simp [State.takeLease, h, hq]

theorem State.dropLease_own (h : s.lease = some p) : s.dropLease p = ({ s with lease := none }, .ok) := if_pos h

theorem State.dropLease_not_own (h : s.lease ≠ some p) : s.dropLease p = (s, .nolease) := if_neg h

/-- Settles O15, by the holder of the lease. -/
theorem leaseTakeAndDrop : Obligations.LeaseTakeAndDrop := by
  intro s p ht hon answered
  have hanswered {c : Instr} {rule : State → State × Result} {lease : Option Port} {code : Result}
      (hexec : exec c s = s.command c p .onlineOnly rule) (hrule : rule s = ({ s with lease := lease }, code)) :
      answered c lease code :=
    ⟨_, hexec.trans (State.command_gives ht (State.refusal_onlineOnly hon) hrule), rfl,
      portBecomes_setResult (s := s) (t := { s with lease := lease }) (fun _ => rfl) code⟩
  have hsame {lease : Option Port} (h : s.lease = lease) : s = { s with lease := lease } := by rw [← h]
  refine ⟨fun hfree => ⟨hanswered (exec_leaseTake s p) (State.takeLease_free hfree),
      hanswered (exec_leaseDrop s p) ?_⟩,
    fun hown => ⟨hanswered (exec_leaseTake s p) ?_, hanswered (exec_leaseDrop s p) (State.dropLease_own hown)⟩,
    fun q hother hq => ⟨hanswered (exec_leaseTake s p) ?_, hanswered (exec_leaseDrop s p) ?_⟩⟩
  · rw [State.dropLease_not_own (by simp [hfree]), ← hsame hfree]
  · rw [State.takeLease_own hown, ← hsame hown]
  · rw [State.takeLease_foreign hother hq, ← hsame hother]
  · rw [State.dropLease_not_own (by simp [hother, hq]), ← hsame hother]

/-! ### FLOOR and FAULT WATCH -/

theorem State.writeFloor_accepted {v : BitVec 4} (h : v.toNat < 9) : s.writeFloor p v =
    ((s.modPort p fun r => { r with floor := ⟨v.toNat, h⟩ }).updateAttention, .ok) := dif_pos h

theorem State.writeFloor_refused {v : BitVec 4} (h : 9 ≤ v.toNat) : s.writeFloor p v = (s, .invalid) :=
  dif_neg (Nat.not_lt.mpr h)

theorem State.portStatus_floor (p : Port) : ((s.portStatus p).extractLsb' 11 4).toNat = (s.port p).floor.val := by
  have hfield : (s.portStatus p).extractLsb' 11 4 = BitVec.ofNat 4 (s.port p).floor.val := by
    simp (disch := omega) only [State.portStatus, BitVec.extractLsb'_append_eq_of_add_le,
      BitVec.extractLsb'_append_eq_of_le]
    exact BitVec.extractLsb'_eq_self
  rw [hfield, BitVec.toNat_ofNat]
  omega

theorem State.portStatus_faultWatch (p : Port) : (s.portStatus p).getLsbD 15 = (s.port p).faultWatch := by
  simp only [State.portStatus, BitVec.getLsbD_append]
  simp

/-- Settles O17, by the state of the port. -/
theorem floorAndFaultWatch : Obligations.FloorAndFaultWatch := by
  intro s p ht
  refine ⟨fun hon => ?online, fun hst v on => ?refused, State.portStatus_floor p, State.portStatus_faultWatch p⟩
  case online =>
    have ha := State.refusal_onlineOnly hon
    refine ⟨fun v hv => ?_, fun v hv => State.command_answers ht ha (State.writeFloor_refused hv), fun on => ?_⟩
    · exact (State.command_writesPort_attention (c := .floor p v) ht ha (State.writeFloor_accepted hv) :)
    · exact (State.command_writesPort_attention (c := .faultWatch p on) (rule := State.writeWatch p on) ht ha rfl :)
  case refused =>
    intro code
    have hcode : s.refusal .onlineOnly p = some code := by
      cases hstate : (s.port p).state with
      | offline => simp [code, hstate, State.refusal_offline hstate (row := .onlineOnly)]
      | draining => simp [code, hstate, State.refusal_draining hstate (.inl rfl)]
      | online => exact absurd hstate hst
    exact ⟨exec_refused ht rfl hcode, exec_refused ht rfl hcode⟩

/-! ### The staging -/

theorem detectionOfCode_eq {k : BitVec 3} (h : k.toNat < 6) : detectionOfCode k =
    some [none, some .rising, some .falling, some .both, some .high, some .low][k.toNat]! := by
  revert k
  decide

theorem detectionOfCode_eq_none {k : BitVec 3} (h : 6 ≤ k.toNat) : detectionOfCode k = none := by
  revert k
  decide

theorem modeOfCode_eq {k : BitVec 2} (h : k.toNat < 3) : modeOfCode k =
    some ([HandOnMode.fixed, .shared, .contest].getD k.toNat .fixed) := by
  revert k
  decide

theorem modeOfCode_eq_none {k : BitVec 2} (h : k.toNat = 3) : modeOfCode k = none := by
  revert k
  decide

/-- A detection setting is coded as it was decoded (Table 10-4). -/
theorem detectionCode_of_detectionOfCode {k : BitVec 3} {d : Option Detection} (h : detectionOfCode k = some d) :
    detectionCode d = k := by
  revert k d
  decide

theorem modeCode_of_modeOfCode {k : BitVec 2} {m : HandOnMode} (h : modeOfCode k = some m) : modeCode m = k := by
  revert k m
  decide

theorem ofBool_getLsbD_eq_extractLsb' {k : Nat} (w : Word) : BitVec.ofBool (w.getLsbD k) = w.extractLsb' k 1 := by
  ext i hi
  obtain rfl : i = 0 := by omega
  simp

/-- The fields of Table 10-4, put together again, are bits 15:0 of the word that they were taken from. -/
theorem routeFields_append (w : Word) :
    0#16 ++ (BitVec.ofBool (w.getLsbD 15) ++ w.extractLsb' 13 2 ++ w.extractLsb' 9 4 ++ w.extractLsb' 7 2 ++
      w.extractLsb' 4 3 ++ w.extractLsb' 1 3 ++ BitVec.ofBool (w.getLsbD 0)) = w &&& 0xFFFF#32 := by
  simp only [ofBool_getLsbD_eq_extractLsb', BitVec.extractLsb'_append_extractLsb'_eq_extractLsb']
  refine BitVec.eq_of_toNat_eq (Eq.trans ?_ (toNat_and_lowOnes w (k := 16) (by decide)).symm)
  rw [BitVec.toNat_append, BitVec.extractLsb'_toNat, BitVec.toNat_ofNat]
  simp

theorem Staging.write0_eq_none (g : Staging) {w : Word}
    (h : 6 ≤ (w.extractLsb' 4 3).toNat ∨ (w.extractLsb' 7 2).toNat = 3) : g.write0 w = none := by
  unfold Staging.write0
  rcases h with hd | hm
  · rw [detectionOfCode_eq_none hd]
  · rw [modeOfCode_eq_none hm]
    cases detectionOfCode (w.extractLsb' 4 3) <;> rfl

/-- The staging that a word with valid codes writes (R187). -/
def Staging.writtenBy (g : Staging) (w : Word) : Staging where
  enable      := w.getLsbD 0
  cls         := (w.extractLsb' 1 3).toFin
  detection   := [none, some .rising, some .falling, some .both, some .high, some .low][(w.extractLsb' 4 3).toNat]!
  mode        := [HandOnMode.fixed, .shared, .contest].getD (w.extractLsb' 7 2).toNat .fixed
  eligible    := w.extractLsb' 9 4
  limitIdx    := (w.extractLsb' 13 2).toFin
  descPresent := w.getLsbD 15
  descAddr    := g.descAddr

theorem Staging.write0_eq_some (g : Staging) {w : Word} (hd : (w.extractLsb' 4 3).toNat < 6)
    (hm : (w.extractLsb' 7 2).toNat < 3) : g.write0 w = some (g.writtenBy w) := by
  unfold Staging.write0
  rw [detectionOfCode_eq hd, modeOfCode_eq hm]
  rfl

theorem Staging.word0_writtenBy (g : Staging) {w : Word} (hd : (w.extractLsb' 4 3).toNat < 6)
    (hm : (w.extractLsb' 7 2).toNat < 3) : (g.writtenBy w).word0 = w &&& 0xFFFF#32 := by
  rw [← routeFields_append, ← detectionCode_of_detectionOfCode (detectionOfCode_eq hd),
    ← modeCode_of_modeOfCode (modeOfCode_eq hm)]
  rfl

theorem State.writeStaging0_accepted {w : Word} {g : Staging} (h : (s.port p).staging.write0 w = some g) :
    s.writeStaging0 p w = (s.modPort p fun r => { r with staging := g }, .ok) := by
  simp only [State.writeStaging0, h]

theorem State.writeStaging0_refused {w : Word} (h : (s.port p).staging.write0 w = none) :
    s.writeStaging0 p w = (s, .invalid) := by
  simp only [State.writeStaging0, h]

/-- Settles O16, by the codes of the word written. -/
theorem stagingIsWritten : Obligations.StagingIsWritten := by
  intro s p ht hon
  have ha := State.refusal_onlineOnly hon
  refine ⟨fun n => ?select, fun w hcode => ?refused, fun w hd hm => ?staging0, fun w => ?staging1⟩
  case select =>
    exact (State.command_writesPort (c := .routeSelect p n) (rule := State.selectRoute p n) ht ha rfl :)
  case refused =>
    exact State.command_answers ht ha (State.writeStaging0_refused (Staging.write0_eq_none _ hcode))
  case staging0 =>
    obtain ⟨t, hexec, hframe, hport⟩ := State.command_writesPort (c := .staging0 p w) ht ha
      (State.writeStaging0_accepted (Staging.write0_eq_some _ hd hm))
    exact ⟨t, (s.port p).staging.writtenBy w, hexec, hframe, hport, rfl, rfl, rfl, rfl, rfl, rfl, rfl, rfl,
      Staging.word0_writtenBy _ hd hm⟩
  case staging1 =>
    exact (State.command_writesPort (c := .staging1 p w) (rule := State.writeStaging1 p w) ht ha rfl :)

/-! ### The release of PRSTn -/

/-- Once PRSTn of port `p` is released and RESET is not asserted, a held access waits exactly when it is another port's. -/
theorem State.stillHeld_release {c : Instr} (hn : s.resetNote = none)
    (hc : ∃ q, accessPort c = some q ∧ ¬takesAccesses s q) :
    (s.setPortReset p false).stillHeld c = decide (accessPort c ≠ some p) := by
  obtain ⟨q, hq, hwaits⟩ := hc
  have hlevel : s.portResets[q] = true := by simpa [takesAccesses, hn] using hwaits
  rw [State.stillHeld, hq, Option.any_some, State.holding, State.portResets_setPortReset, hlevel]
  by_cases hqp : q = p
  · simp [hqp, hn]
  · simp [hqp, Ne.symm hqp]

/-- While RESET is asserted every access is held still. -/
theorem State.stillHeld_underReset {c : Instr} (hn : s.resetNote ≠ none) (hc : (accessPort c).isSome = true) :
    s.stillHeld c = true := by
  obtain ⟨q, hq⟩ := Option.isSome_iff_exists.mp hc
  simp [State.stillHeld, hq, State.holding, Option.isSome_iff_ne_none.mpr hn]

/-- Settles O60, by the level of RESET. -/
theorem portResetReleaseLetsAccessesThrough : Obligations.PortResetReleaseLetsAccessesThrough := by
  intro s p hheld
  let u := s.setPortReset p false
  refine ⟨u.letThrough, exec_portReset s _, fun q => ?level, fun hn => ?reset, fun hn => ?awake⟩
  case level =>
    rw [State.letThrough_portResets, State.portResets_setPortReset]
    by_cases hq : q = p
    · simp [hq]
    · simp [hq, Ne.symm hq]
  case reset =>
    have hstill : u.letThrough = u := State.letThrough_eq u fun c hc => by
      obtain ⟨q, hq, -⟩ := hheld c hc
      exact State.stillHeld_underReset hn (by simp [hq])
    rw [hstill]
    rfl
  case awake =>
    have hstill : ∀ c ∈ s.held, u.stillHeld c = decide (accessPort c ≠ some p) := fun c hc =>
      State.stillHeld_release hn (hheld c hc)
    have hwait : s.held.filter u.stillHeld = s.held.filter fun c => accessPort c ≠ some p := List.filter_congr hstill
    have hgo : (s.held.filter fun c => !u.stillHeld c) = s.held.filter fun c => accessPort c = some p :=
      List.filter_congr fun c hc => by simp [hstill c hc]
    rw [← hwait, ← hgo]
    rfl

end Sys2Proof.Machine
end

section
namespace Sys2Proof.Machine

variable {s t u : State} {c : Instr} {p : Port} {n : SourceId}

/-! ### What leaves the claim timing and the run/halt setting as they are -/

/-- The settings that a port writes under the lease beside the route records: divider, limits and run/halt (R112, R113,
R129). -/
def State.settings (s : State) : Nat × Vector (BitVec 16) 4 × Bool := (s.divider, s.limits, s.running)

theorem OffBooks.settings (h : OffBooks s t) : t.settings = s.settings := by
  rw [h]
  exact Eq.refl _

/-! #### Lines, timers and resets -/

theorem State.settings_releaseReset (note : ResetNote) (levels : Levels) :
    (s.releaseReset note levels).settings = s.settings := by
  have hdone := (State.releaseLatched_foldl (s := (s.released levels).handRecord (partResetRecord note))
    lineSources_nodup).frame
  rw [State.releaseReset_eq]
  exact (((OffBooks.handRecord _).trans hdone).trans OffBooks.updateAttention).settings

theorem State.settings_assertPortReset (p : Port) : (s.assertPortReset p).settings = s.settings := by
  unfold State.assertPortReset
  split
  · rfl
  split
  · rfl
  · exact (State.offBooks_resetPort (s := s.setPortReset p true) p).settings

theorem State.settings_expire (m : SourceId) (cl : Claim) : (s.expire m cl).settings = s.settings :=
  State.offBooks_expire.settings.trans (by simp [State.settings])

/-! #### Dispatch and the engine -/

theorem State.settings_place : s.place.settings = s.settings := by
  unfold State.place
  split
  · rfl
  · rw [State.placeHosts_frame]
    rfl
  · rfl

theorem State.settings_startService : s.startService.settings = s.settings := by
  unfold State.startService
  split
  · split <;> rfl
  · rfl

theorem State.settings_endService (m : SourceId) (addr : Option Word) (rs : List FaultRecord)
    (flag : Option EngineFlag) : (s.endService m addr rs flag).settings = s.settings :=
  (State.endService_offBooks m addr rs flag).settings

theorem State.settings_moveError (v : Service) (w : Work) (ph : BusPhase) :
    (s.moveError v w ph).settings = s.settings := (OffBooks.handRecord (s := s) _).settings

theorem State.settings_fetchAnswer (a : ReadAnswer) : (s.fetchAnswer a).settings = s.settings := by
  unfold State.fetchAnswer State.fetchDone
  split
  · rfl
  split
  case h_4 =>
    split
    · exact State.settings_endService _ _ _ _
    split
    · rfl
    · exact State.settings_endService _ _ _ _
  case h_5 | h_6 | h_7 | h_8 => exact State.settings_endService _ _ _ _
  all_goals rfl

theorem State.settings_unitReadAnswer (a : ReadAnswer) : (s.unitReadAnswer a).settings = s.settings := by
  unfold State.unitReadAnswer
  split
  · rfl
  split
  case h_2 => rfl
  split
  · rfl
  · exact State.settings_moveError _ _ _

theorem State.settings_unitWriteAnswer (a : WriteAnswer) : (s.unitWriteAnswer a).settings = s.settings := by
  unfold State.unitWriteAnswer State.unitDone
  split
  · rfl
  split
  case h_2 => rfl
  split
  · split <;> rfl
  · exact State.settings_moveError _ _ _

theorem State.settings_writebackAnswer (a : WriteAnswer) : (s.writebackAnswer a).settings = s.settings := by
  unfold State.writebackAnswer State.endWriteback
  split
  · rfl
  split
  case h_2 => rfl
  split
  · rfl
  · rfl
  · split
    · exact State.settings_endService _ _ _ _
    split <;> exact State.settings_endService _ _ _ _
  · exact State.settings_endService _ _ _ _

/-! #### Accesses that need no lease -/

theorem State.settings_of_orHold {take : State → State} (h : (take s).settings = s.settings)
    (hx : s.orHold c p take = .next t) : t.settings = s.settings := by
  unfold State.orHold at hx
  split at hx <;> obtain rfl := Host.Outcome.next.inj hx
  · rfl
  · exact h

theorem State.settings_of_command {row : Admission} {rule : State → State × Result}
    (h : (rule s).1.settings = s.settings) (hx : s.command c p row rule = .next t) : t.settings = s.settings := by
  refine State.settings_of_orHold ?_ hx
  split
  · rfl
  · exact h

theorem State.settings_leavePort (p : Port) : (s.leavePort p).1.settings = s.settings := by
  unfold State.leavePort
  split
  · simp [State.settings, State.withdrawPort]
  · rfl

theorem State.settings_takeLease (p : Port) : (s.takeLease p).1.settings = s.settings := by
  unfold State.takeLease
  split <;> rfl

theorem State.settings_dropLease (p : Port) : (s.dropLease p).1.settings = s.settings := by
  unfold State.dropLease
  split <;> rfl

theorem State.settings_writeStaging0 (p : Port) (w : Word) : (s.writeStaging0 p w).1.settings = s.settings := by
  unfold State.writeStaging0
  split <;> rfl

theorem State.settings_writeFloor (p : Port) (v : BitVec 4) : (s.writeFloor p v).1.settings = s.settings := by
  unfold State.writeFloor
  split <;> rfl

theorem State.settings_resumeSource (m : SourceId) : (s.resumeSource m).1.settings = s.settings := by
  unfold State.resumeSource
  split
  · simp [State.settings]
  · rfl

theorem State.settings_postPayload (m : SourceId) (d : Payload) : (s.postPayload m d).1.settings = s.settings := by
  unfold State.postPayload
  dsimp only
  iterate 3
    split
    · rfl
  split <;> simp [State.settings]

theorem State.settings_unpostSource (m : SourceId) : (s.unpostSource m).1.settings = s.settings := by
  unfold State.unpostSource
  iterate 2
    split
    · rfl
  split
  · exact ((OffBooks.discardHead (s := s.dropEntry m) m).trans OffBooks.updateAttention).settings
  · exact ((OffBooks.discardHead (s := s.withdraw (fun _ => true) m) m).trans OffBooks.updateAttention).settings
  · split <;> rfl
  · split <;> rfl
  all_goals rfl

theorem State.settings_claimRead (p : Port) : (s.claimRead p).settings = s.settings := by
  unfold State.claimRead
  split
  · rfl
  · rfl
  split
  · rfl
  split <;> rfl

theorem State.settings_faultRead (p : Port) : (s.faultRead p).settings = s.settings := by
  unfold State.faultRead
  split
  · rfl
  split <;> rfl

theorem State.settings_matchClaim {m : SourceId} {tag : Tag} {rule : State → Claim → State × Result}
    (h : ∀ cl, (rule s cl).1.settings = s.settings) : (s.matchClaim p m tag rule).1.settings = s.settings := by
  unfold State.matchClaim
  split
  · rfl
  split
  · rfl
  split
  · rfl
  · exact h _

theorem State.settings_completeClaim (m : SourceId) (cl : Claim) : (s.completeClaim m cl).1.settings = s.settings := by
  simp [State.completeClaim, State.settings]

theorem State.settings_giveBack (m : SourceId) (cl : Claim) : (s.giveBack m cl).1.settings = s.settings := by
  unfold State.giveBack
  dsimp only
  split <;> simp [State.settings]

theorem State.settings_extendClaim (m : SourceId) (cl : Claim) : (s.extendClaim m cl).1.settings = s.settings := by
  unfold State.extendClaim
  split
  · rfl
  split <;> rfl

/-! #### Every command -/

/-- The claim timing and the run/halt setting are left as they are by every command but power-on, part reset and those of
the row of Table 8-3 that needs the lease. -/
theorem settings_exec (hx : exec c s = .next t) : t.settings = s.settings ∨ (∃ levels, c = .powerOn levels) ∨
    c = .partReset ∨ ∃ p, commandRow c = some (p, .leaseHolder) := by
  cases c with
  | powerOn levels => exact .inr (.inl ⟨levels, rfl⟩)
  | partReset => exact .inr (.inr (.inl rfl))
  | routeCommit p | disable p | tickDivider p | limit p | run p | halt p | abort p =>
    exact .inr (.inr (.inr ⟨p, rfl⟩))
  | resetRelease levels =>
    rw [exec_resetRelease, execResetRelease] at hx
    split at hx <;> obtain rfl := Host.Outcome.next.inj hx
    · exact .inl (State.settings_releaseReset _ levels)
    · exact .inl rfl
  | portReset prst =>
    rw [exec_portReset] at hx
    cases hx
    split
    · exact .inl (State.settings_assertPortReset prst.port)
    · exact .inl rfl
  | lineChange l level =>
    rw [exec_lineChange] at hx
    cases hx
    split
    · exact .inl rfl
    split
    · exact .inl rfl
    · exact .inl (OffBooks.judgeChange (s := s.sampleLine l level) (lineSource l) level).settings
  | placement => cases hx; exact .inl State.settings_place
  | tick =>
    rw [exec_tick] at hx
    cases hx
    split <;> exact .inl rfl
  | expiry m =>
    rw [exec_expiry, execExpiry] at hx
    split at hx <;> obtain rfl := Host.Outcome.next.inj hx
    · split
      · exact .inl (State.settings_expire m _)
      · exact .inl rfl
    · exact .inl rfl
  | serviceStart => cases hx; exact .inl State.settings_startService
  | fetchAnswer a => cases hx; exact .inl (State.settings_fetchAnswer a)
  | unitReadAnswer a => cases hx; exact .inl (State.settings_unitReadAnswer a)
  | unitWriteAnswer a => cases hx; exact .inl (State.settings_unitWriteAnswer a)
  | writebackAnswer a => cases hx; exact .inl (State.settings_writebackAnswer a)
  | join p => exact .inl (State.settings_of_command rfl (exec_join s p ▸ hx))
  | leave p => exact .inl (State.settings_of_command (State.settings_leavePort p) (exec_leave s p ▸ hx))
  | leaseTake p => exact .inl (State.settings_of_command (State.settings_takeLease p) (exec_leaseTake s p ▸ hx))
  | leaseDrop p => exact .inl (State.settings_of_command (State.settings_dropLease p) (exec_leaseDrop s p ▸ hx))
  | routeSelect p m => exact .inl (State.settings_of_command rfl (exec_routeSelect s p m ▸ hx))
  | staging0 p w => exact .inl (State.settings_of_command (State.settings_writeStaging0 p w) (exec_staging0 s p w ▸ hx))
  | staging1 p w => exact .inl (State.settings_of_command rfl (exec_staging1 s p w ▸ hx))
  | resume p m => exact .inl (State.settings_of_command (State.settings_resumeSource m) (exec_resume s p m ▸ hx))
  | post p m d => exact .inl (State.settings_of_command (State.settings_postPayload m d) (exec_post s p m d ▸ hx))
  | unpost p m => exact .inl (State.settings_of_command (State.settings_unpostSource m) (exec_unpost s p m ▸ hx))
  | claim p => exact .inl (State.settings_of_orHold (State.settings_claimRead p) (exec_claim s p ▸ hx))
  | complete p m tag =>
    exact .inl (State.settings_of_command (State.settings_matchClaim (State.settings_completeClaim m))
      (exec_complete s p m tag ▸ hx))
  | returnClaim p m tag =>
    exact .inl (State.settings_of_command (State.settings_matchClaim (State.settings_giveBack m))
      (exec_returnClaim s p m tag ▸ hx))
  | extend p m tag =>
    exact .inl (State.settings_of_command (State.settings_matchClaim (State.settings_extendClaim m))
      (exec_extend s p m tag ▸ hx))
  | floor p v => exact .inl (State.settings_of_command (State.settings_writeFloor p v) (exec_floor s p v ▸ hx))
  | faultWatch p on => exact .inl (State.settings_of_command rfl (exec_faultWatch s p on ▸ hx))
  | fault p => exact .inl (State.settings_of_orHold (State.settings_faultRead p) (exec_fault s p ▸ hx))
  | narrowTakeRead p reg enables =>
    exact .inl (State.settings_of_orHold rfl (exec_narrowTakeRead s p reg enables ▸ hx))
  | undefinedAccess p a =>
    rw [exec_undefinedAccess] at hx
    split at hx
    · refine .inl (State.settings_of_orHold ?_ hx)
      split <;> rfl
    · cases hx

/-! ### Who configures -/

/-- A command of the row that needs the lease leaves sources and settings as they are, or comes from the ONLINE port that
holds the lease (R164). -/
theorem State.command_leaseHolder {rule : State → State × Result} (hx : s.command c p .leaseHolder rule = .next t) :
    (t.settings = s.settings ∧ t.sources = s.sources) ∨ (s.lease = some p ∧ s.online p = true) := by
  rcases State.command_cases s c p .leaseHolder rule with ⟨-, heq⟩ | ⟨-, code, -, heq⟩ | ⟨-, ha, -⟩
  · rw [heq] at hx
    cases hx
    exact .inl ⟨rfl, rfl⟩
  · rw [heq] at hx
    cases hx
    exact .inl ⟨rfl, rfl⟩
  · obtain ⟨hon, hlease⟩ := (State.refusal_none s .leaseHolder p).mp ha
    exact .inr ⟨hlease, beq_iff_eq.mpr hon⟩

/-- What a port configures of the route record of a source: all but the address that the engine moves on (R2, R140). -/
def State.configuredRoute (s : State) (n : SourceId) : Route := { (s.source n).route with descAddr := none }

/-- A command outside the row that needs the lease leaves the configured route record of a source, power-on aside. -/
theorem route_exec (hx : exec c s = .next t) (hrow : ¬∃ p, commandRow c = some (p, .leaseHolder)) :
    t.configuredRoute n = s.configuredRoute n ∨ ∃ levels, c = .powerOn levels := by
  unfold State.configuredRoute
  cases recordStep_exec (n := n) hx with
  | kept _ keeps => exact .inl (by rw [keeps.route])
  | placed _ route _ => exact .inl (by rw [route])
  | powered levels _ => exact .inr ⟨levels, rfl⟩
  | committed p => exact absurd ⟨p, rfl⟩ hrow
  | disabled p => exact absurd ⟨p, rfl⟩ hrow
  | served _ _ _ _ _ route => exact .inl (by rw [route])

/-- Settles O54: a command that needs the lease is taken from its ONLINE holder alone, and the others leave the
configuration as it is. -/
theorem onlyLeaseHolderConfigures : Obligations.OnlyLeaseHolderConfigures := by
  intro c s t n hx hchanged
  have hkept (hset : t.settings = s.settings) : t.configuredRoute n ≠ s.configuredRoute n := by
    obtain ⟨hdivider, hlimits, hrunning⟩ : t.divider = s.divider ∧ t.limits = s.limits ∧ t.running = s.running := by
      simpa [State.settings] using hset
    rcases hchanged with h | h | h | h
    · exact absurd hdivider h
    · exact absurd hlimits h
    · exact absurd hrunning h
    · exact h
  by_cases hrow : ∃ p, commandRow c = some (p, .leaseHolder)
  · obtain ⟨p, hrow⟩ := hrow
    obtain ⟨rule, hexec⟩ := exec_of_commandRow hrow
    rcases State.command_leaseHolder (hexec s ▸ hx) with ⟨hset, hsrc⟩ | hholder
    · exact absurd (by simp only [State.configuredRoute, State.source, hsrc]) (hkept hset)
    · exact .inr (.inr ⟨p, accessPort_of_commandRow hrow, hholder⟩)
  · rcases settings_exec hx with hset | hpowered | hreset | hlease
    · exact .inl ((route_exec hx hrow).resolve_left (hkept hset))
    · exact .inl hpowered
    · exact .inr (.inl hreset)
    · exact absurd hlease hrow

end Sys2Proof.Machine
end

section
namespace Sys2Proof.Machine

variable {s t : State} {p : Port}

/-! ### A record handed to the fault queue -/

/-- Settles O34, by the room left in the fault queue. -/
theorem recordIsStoredOrDropped : Obligations.RecordIsStoredOrDropped := by
  intro s r
  refine ⟨State.handRecord_frame r, fun hroom => ?stored, fun hfull => ?dropped⟩
  case stored =>
    rw [State.handRecord_stored s r hroom]
    exact ⟨rfl, rfl⟩
  case dropped =>
    rw [State.handRecord_dropped s r hfull]
    exact ⟨rfl, rfl⟩

/-! ### The FAULT read that pops the head record -/

theorem State.faultRead_pops {r : FaultRecord} {rest : List FaultRecord} (hst : (s.port p).state ≠ .offline)
    (hf : s.faults = r :: rest) : s.faultRead p = s.popFault p r rest := by
  simp [State.faultRead, hst, hf]

theorem State.readWord_popFault (q : Port) (r : FaultRecord) (rest : List FaultRecord) :
    (s.popFault p r rest).readWord[q] = (s.returnWord p r.firstWord).readWord[q] := rfl

/-- Registers rewritten at port `p` alone. -/
theorem portBecomes_of_modPort {f : PortRegs → PortRegs} (h : t.ports = (s.modPort p f).ports) :
    PortBecomes s t p (f (s.port p)) := by
  have hport (q : Port) : t.port q = (s.modPort p f).port q := by simp only [State.port, h]
  exact ⟨by rw [hport, State.port_modPort_self], fun q hq => by rw [hport, State.port_modPort_ne s p q f hq]⟩

/-- A pop replaces the last fault data of its port and leaves OK in RESULT (R177). -/
theorem State.portBecomes_popFault (r : FaultRecord) (rest : List FaultRecord) :
    PortBecomes s (s.popFault p r rest) p { s.port p with faultData := some r.secondWord, result := .ok } :=
  portBecomes_of_modPort (f := fun q => { q with faultData := some r.secondWord, result := .ok }) rfl

/-- Settles O35, table by table of the state that the pop leaves. -/
theorem faultReadPopsHead : Obligations.FaultReadPopsHead := by
  intro s p r rest ht hst hf
  have hx : exec (.fault p) s = .next (s.popFault p r rest) := by
    rw [exec_fault, State.orHold_takes ht, State.faultRead_pops hst hf]
  refine ⟨_, hx, rfl, State.portBecomes_popFault r rest, ?_, fun q hq => ?_, attnOk_updateAttention⟩
  · rw [State.readWord_popFault, State.readWord_returnWord_self]
  · rw [State.readWord_popFault, State.readWord_returnWord_ne hq]

end Sys2Proof.Machine
end

section
namespace Sys2Proof.Machine

open BitVec

variable {p : Port} {w x : Word} {mask : Word} {n : SourceId}

/-! ### The operand fields of a written word -/

/-- Words that agree under a mask agree in every field that the mask covers. -/
theorem field_eq_of_and_eq {k len : Nat} (h : w &&& mask = x &&& mask)
    (hmask : mask.extractLsb' k len = allOnes len) : w.extractLsb' k len = x.extractLsb' k len := by
  have hfield := congrArg (BitVec.extractLsb' k len) h
  rwa [extractLsb'_and, extractLsb'_and, hmask, and_allOnes, and_allOnes] at hfield

/-- Words that agree under a mask agree in every bit that the mask covers. -/
theorem getLsbD_eq_of_and_eq {k : Nat} (h : w &&& mask = x &&& mask) (hmask : mask.getLsbD k = true) :
    w.getLsbD k = x.getLsbD k := by
  simpa [hmask] using congrArg (·.getLsbD k) h

theorem sourceField_append (upper : BitVec 26) (n : SourceId) : sourceField (upper ++ ofFin (w := 6) n) = n := by
  simp (disch := omega) only [sourceField, extractLsb'_append_eq_of_add_le]
  exact congrArg BitVec.toFin extractLsb'_eq_self

theorem sourceField_eq {upper : BitVec 26} (h : w &&& mask = (upper ++ ofFin (w := 6) n) &&& mask)
    (hmask : mask.extractLsb' 0 6 = allOnes 6) : sourceField w = n :=
  (congrArg BitVec.toFin (field_eq_of_and_eq h hmask)).trans (sourceField_append upper n)

theorem tagField_append (upper : BitVec 16) (tag : Tag) (gap : BitVec 2) (n : BitVec 6) :
    tagField (upper ++ tag ++ gap ++ n) = tag := by
  simp (disch := omega) only [tagField, extractLsb'_append_eq_of_add_le, extractLsb'_append_eq_of_le]
  exact extractLsb'_eq_self

theorem payloadField_append (d : Payload) (gap : BitVec 10) (n : BitVec 6) : payloadField (d ++ gap ++ n) = d := by
  simp (disch := omega) only [payloadField, extractLsb'_append_eq_of_le]
  exact extractLsb'_eq_self

theorem floorField_append (upper : BitVec 28) (v : BitVec 4) : floorField (upper ++ v) = v := by
  simp (disch := omega) only [floorField, extractLsb'_append_eq_of_add_le]
  exact extractLsb'_eq_self

theorem watchField_append (upper : BitVec 31) (on : Bool) : watchField (upper ++ ofBool on) = on := by
  simp only [watchField, getLsbD_append]
  simp

/-! ### What a command is read back from -/

/-- Command `i` of port `p` is read back from its access, and from every access whose word has the same operand bits. -/
def ReadsBack (p : Port) (i : Instr) : Prop :=
  ∃ a, encodeAccess i = some (p, a) ∧
    ∀ w : Word, w &&& operandBits i = a.data &&& operandBits i → decodeAccess p { a with data := w } = some i

/-- A full-word write at a command register is the command that `decodeWrite` reads (Table 10-2). -/
theorem decodeAccess_write {o : BitVec 8} (ho : commandOffset o = true) :
    decodeAccess p ⟨true, o, 0xF, w⟩ = decodeWrite p o w := by
  simp [decodeAccess, Access.undefined, Access.full, ho]

theorem readsBack_write {i : Instr} {o : BitVec 8} (henc : encodeAccess i = some (p, ⟨true, o, 0xF, x⟩))
    (ho : commandOffset o = true)
    (hdec : ∀ w : Word, w &&& operandBits i = x &&& operandBits i → decodeWrite p o w = some i) : ReadsBack p i :=
  ⟨_, henc, fun w hw => (decodeAccess_write ho).trans (hdec w hw)⟩

/-- A command without operands is read from every word. -/
theorem readsBack_plain {i : Instr} {o : BitVec 8} (henc : encodeAccess i = some (p, ⟨true, o, 0xF, 0⟩))
    (ho : commandOffset o = true) (hdec : ∀ w : Word, decodeWrite p o w = some i) : ReadsBack p i :=
  readsBack_write henc ho fun w _ => hdec w

/-- A command whose operand is the whole word. -/
theorem readsBack_word {c : Word → Instr} {o : BitVec 8} (henc : encodeAccess (c x) = some (p, ⟨true, o, 0xF, x⟩))
    (ho : commandOffset o = true) (hbits : operandBits (c x) = allOnes 32)
    (hdec : ∀ w : Word, decodeWrite p o w = some (c w)) : ReadsBack p (c x) :=
  readsBack_write henc ho fun w hw => by
    rw [hbits, and_allOnes, and_allOnes] at hw
    rw [hdec, hw]

/-- A command whose operand is a source. -/
theorem readsBack_source {c : SourceId → Instr} {o : BitVec 8}
    (henc : encodeAccess (c n) = some (p, ⟨true, o, 0xF, 0#26 ++ ofFin (w := 6) n⟩)) (ho : commandOffset o = true)
    (hbits : operandBits (c n) = 0x3F) (hdec : ∀ w : Word, decodeWrite p o w = some (c (sourceField w))) :
    ReadsBack p (c n) :=
  readsBack_write henc ho fun w hw => by
    rw [hbits] at hw
    rw [hdec, sourceField_eq hw rfl]

/-- A command whose operands are a source and a tag. -/
theorem readsBack_tagged {c : SourceId → Tag → Instr} {tag : Tag} {o : BitVec 8}
    (henc : encodeAccess (c n tag) = some (p, ⟨true, o, 0xF, 0#16 ++ tag ++ 0#2 ++ ofFin (w := 6) n⟩))
    (ho : commandOffset o = true) (hbits : operandBits (c n tag) = 0xFF3F)
    (hdec : ∀ w : Word, decodeWrite p o w = some (c (sourceField w) (tagField w))) : ReadsBack p (c n tag) :=
  readsBack_write henc ho fun w hw => by
    rw [hbits] at hw
    have hsrc : sourceField w = n := sourceField_eq hw rfl
    have htag : tagField w = tag := (field_eq_of_and_eq hw rfl).trans (tagField_append _ tag _ _)
    rw [hdec, hsrc, htag]

theorem readsBack_post (n : SourceId) (d : Payload) : ReadsBack p (.post p n d) :=
  readsBack_write rfl rfl fun w (hw : w &&& 0xFFFF003F = _ &&& 0xFFFF003F) => by
    have hsrc : sourceField w = n := sourceField_eq hw rfl
    have hpay : payloadField w = d := (field_eq_of_and_eq hw rfl).trans (payloadField_append d _ _)
    rw [← hsrc, ← hpay]
    rfl

theorem readsBack_floor (v : BitVec 4) : ReadsBack p (.floor p v) :=
  readsBack_write rfl rfl fun w (hw : w &&& 0xF = _ &&& 0xF) => by
    have hv : floorField w = v := (field_eq_of_and_eq hw rfl).trans (floorField_append _ v)
    rw [← hv]
    rfl

theorem readsBack_faultWatch (on : Bool) : ReadsBack p (.faultWatch p on) :=
  readsBack_write rfl rfl fun w (hw : w &&& 1 = _ &&& 1) => by
    have hon : watchField w = on := (getLsbD_eq_of_and_eq hw rfl).trans (watchField_append _ on)
    rw [← hon]
    rfl

theorem decodeTakeRead_narrow (reg : TakeRegister) (enables : Fin 15) :
    decodeTakeRead p reg (.ofNat 4 enables.val) = .narrowTakeRead p reg enables := by
  have henables : (BitVec.ofNat 4 enables.val).toNat = enables.val := by
    rw [toNat_ofNat]
    omega
  simp [decodeTakeRead, henables]

theorem decodeAccess_readClaim (enables : BitVec 4) :
    decodeAccess p ⟨false, 0x08, enables, w⟩ = some (decodeTakeRead p .claim enables) := by
  simp [decodeAccess, Access.undefined, readableOffset]

theorem decodeAccess_readFault (enables : BitVec 4) :
    decodeAccess p ⟨false, 0x18, enables, w⟩ = some (decodeTakeRead p .fault enables) := by
  simp [decodeAccess, Access.undefined, readableOffset]

/-- The command of a read is the same whatever stands on the data lines. -/
theorem readsBack_narrow (reg : TakeRegister) (enables : Fin 15) : ReadsBack p (.narrowTakeRead p reg enables) := by
  have hread := congrArg some (decodeTakeRead_narrow (p := p) reg enables)
  cases reg with
  | claim => exact ⟨_, rfl, fun w _ => (decodeAccess_readClaim _).trans hread⟩
  | fault => exact ⟨_, rfl, fun w _ => (decodeAccess_readFault _).trans hread⟩

theorem readsBack_undefined {a : Access} (h : a.undefined = true) : ReadsBack p (.undefinedAccess p a) := by
  refine ⟨a, rfl, fun w (hw : w &&& allOnes 32 = a.data &&& allOnes 32) => ?_⟩
  rw [and_allOnes, and_allOnes] at hw
  subst hw
  exact if_pos h

theorem readsBack_of_accessPort {i : Instr} (hwf : i.wellFormed = true) (hport : accessPort i = some p) :
    ReadsBack p i := by
  cases i
  case powerOn | partReset | resetRelease | portReset | lineChange | placement | tick | expiry | serviceStart
      | fetchAnswer | unitReadAnswer | unitWriteAnswer | writebackAnswer => cases hport
  all_goals obtain rfl := Option.some.inj hport
  case join | leave | leaseTake | leaseDrop | routeCommit | run | halt | abort =>
    exact readsBack_plain rfl rfl fun _ => rfl
  case staging0 | staging1 | tickDivider => exact readsBack_word rfl rfl rfl fun _ => rfl
  case limit i _ =>
    match i with
    | 0 | 1 | 2 | 3 => exact readsBack_word rfl rfl rfl fun _ => rfl
  case routeSelect | disable | resume | unpost => exact readsBack_source rfl rfl rfl fun _ => rfl
  case complete | returnClaim | extend => exact readsBack_tagged rfl rfl rfl fun _ => rfl
  case post n d => exact readsBack_post n d
  case floor v => exact readsBack_floor v
  case faultWatch on => exact readsBack_faultWatch on
  case claim => exact ⟨_, rfl, fun _ _ => decodeAccess_readClaim _⟩
  case fault => exact ⟨_, rfl, fun _ _ => decodeAccess_readFault _⟩
  case narrowTakeRead reg enables => exact readsBack_narrow reg enables
  case undefinedAccess a => exact readsBack_undefined hwf

/-- Settles O59: the access itself is one of the accesses with the same operand bits. -/
theorem accessDecodesItsCommand : Obligations.AccessDecodesItsCommand := by
  intro i p hwf hport
  obtain ⟨a, henc, hdec⟩ := readsBack_of_accessPort hwf hport
  exact ⟨a, henc, hdec a.data rfl, hdec⟩

end Sys2Proof.Machine
end

section
namespace Sys2Proof.Machine

variable {s : State} {p : Port}

/-! ### Narrow and undefined accesses -/

/-- A read at port `p` that takes nothing returns 0, and nothing else changes (R183, R184). -/
structure ReturnsZero (s t : State) (p : Port) : Prop where
  frame  : t = { s with readWord := t.readWord }
  word   : t.readWord[p] = 0
  others : ∀ q : Port, q ≠ p → t.readWord[q] = s.readWord[q]

theorem State.returnsZero (p : Port) : ReturnsZero s (s.returnWord p 0) p where
  frame := rfl
  word := State.readWord_returnWord_self p 0
  others _ hq := State.readWord_returnWord_ne hq 0

/-- An undefined access that is taken: a write changes nothing, a read returns 0 (R184). -/
theorem exec_undefinedAccess_taken (ht : takesAccesses s p) {a : Access} (ha : a.undefined = true) :
    exec (.undefinedAccess p a) s = .next (if a.write then s else s.returnWord p 0) := by
  rw [exec_undefinedAccess, if_pos ha, State.orHold_takes ht]

/-- Settles O12. -/
theorem narrowAndUndefinedAccess : Obligations.NarrowAndUndefinedAccess := by
  intro s p ht returnsZero
  obtain ⟨frame, word, others⟩ := State.returnsZero (s := s) p
  have hzero {c : Instr} (hexec : exec c s = .next (s.returnWord p 0)) : returnsZero c :=
    ⟨_, hexec, frame, word, others⟩
  refine ⟨fun reg enables => hzero ?narrow, fun a ha hread => hzero ?read, fun a ha hwrite => ?write⟩
  case narrow => rw [exec_narrowTakeRead, State.orHold_takes ht]
  case read => simp [exec_undefinedAccess_taken ht ha, hread]
  case write => simp [exec_undefinedAccess_taken ht ha, hwrite]

end Sys2Proof.Machine
end

section
namespace Sys2Proof.Machine

open BitVec

variable {s : State} {p : Port}

/-! ### PORT STATUS -/

theorem toNat_portStateCode (st : PortState) : (portStateCode st).toNat =
    match st with | .offline => 0 | .online => 1 | .draining => 2 := by
  cases st <;> rfl

/-- The lease field of PORT STATUS: free, held by the port itself, held by another port (Table 10-6). -/
def leaseCode (lease : Option Port) (p : Port) : BitVec 2 :=
  match lease with
  | none => 0
  | some q => if q = p then 1 else 2

theorem toNat_leaseCode (lease : Option Port) (p : Port) : (leaseCode lease p).toNat =
    match lease with | none => 0 | some q => if q = p then 1 else 2 := by
  cases lease with
  | none => rfl
  | some q => exact apply_ite BitVec.toNat (q = p) 1#2 2#2

/-- The fields of PORT STATUS (Table 10-6). -/
structure ShowsPort (w : Word) (s : State) (p : Port) : Prop where
  state    : w.extractLsb' 0 2 = portStateCode (s.port p).state
  claims   : w.extractLsb' 2 4 = .ofNat 4 (s.claimCount p)
  offers   : w.extractLsb' 6 5 = .ofNat 5 (s.queue p).length
  selected : w.extractLsb' 16 6 = ofFin (w := 6) (s.port p).selected
  lease    : w.extractLsb' 22 2 = leaseCode s.lease p
  holder   : w.extractLsb' 24 2 = ofFin (w := 2) (s.lease.getD 0)
  unused   : w.extractLsb' 26 6 = 0

theorem State.showsPort_portStatus (s : State) (p : Port) : ShowsPort (s.portStatus p) s p := by
  constructor
  all_goals
    simp (disch := omega) only [State.portStatus, extractLsb'_append_eq_of_add_le, extractLsb'_append_eq_of_le]
    exact extractLsb'_eq_self

/-! ### ENGINE STATUS -/

theorem toNat_engineStateCode (service : Option Service) : (engineStateCode service).toNat =
    match service with
    | none => 0
    | some v => if v.phase.isWriteback then 3 else if v.phase.work?.isSome then 2 else 1 := by
  rcases service with _ | ⟨src, descAddr, abort, moveFault, phase⟩
  · rfl
  · cases phase <;> rfl

/-- The fields of ENGINE STATUS (Table 10-7). -/
structure ShowsEngine (w : Word) (s : State) : Prop where
  state  : w.extractLsb' 0 2 = engineStateCode s.service
  halted : w.getLsbD 2 = !s.running
  busy   : w.getLsbD 3 = s.service.isSome
  src    : w.extractLsb' 4 6 = ofFin (w := 6) (s.service.elim 0 Service.src)
  abort  : w.getLsbD 10 = s.service.elim false Service.abort
  queued : w.extractLsb' 11 4 = .ofNat 4 s.engineQueue.length
  unused : w.extractLsb' 15 17 = 0

theorem State.engineStatus_eq (s : State) : s.engineStatus =
    0#17 ++ BitVec.ofNat 4 s.engineQueue.length ++ ofBool (s.service.elim false Service.abort) ++
      ofFin (w := 6) (s.service.elim 0 Service.src) ++ ofBool s.service.isSome ++ ofBool (!s.running) ++
      engineStateCode s.service := by
  unfold State.engineStatus
  cases s.service <;> rfl

theorem State.showsEngine_engineStatus (s : State) : ShowsEngine s.engineStatus s := by
  rw [State.engineStatus_eq]
  constructor
  case halted | busy | abort =>
    simp only [getLsbD_append]
    simp
  all_goals
    simp (disch := omega) only [extractLsb'_append_eq_of_add_le, extractLsb'_append_eq_of_le]
    exact extractLsb'_eq_self

/-! ### LINE STATE 0 and 1 -/

theorem getLsbD_lineState0 (levels : Levels) {i : Nat} (hi : i < 32) :
    (levels.extractLsb' 0 32).getLsbD i = levels.getLsbD i := by
  simp [hi]

theorem getLsbD_lineState1 (levels : Levels) {i : Nat} (hi : i < 16) :
    (0#16 ++ levels.extractLsb' 32 16).getLsbD i = levels.getLsbD (32 + i) := by
  simp only [getLsbD_append]
  simp [hi]

theorem lineState1_unused (levels : Levels) : (0#16 ++ levels.extractLsb' 32 16 : Word).extractLsb' 16 16 = 0 := by
  simp (disch := omega) only [extractLsb'_append_eq_of_le]
  exact extractLsb'_eq_self

/-- A count no greater than `k` is shown whole in a field that holds `k`. -/
theorem toNat_ofNat_le {w n k : Nat} (h : n ≤ k) (hk : k < 2 ^ w) : (BitVec.ofNat w n).toNat = n := by
  rw [toNat_ofNat, Nat.mod_eq_of_lt (Nat.lt_of_le_of_lt h hk)]

/-- Settles O55, word by word: each count fits the field that shows it. -/
theorem statusWordLayouts : Obligations.StatusWordLayouts := by
  intro s p hclaims hoffers hqueued
  have hp := s.showsPort_portStatus p
  have he := s.showsEngine_engineStatus
  refine ⟨⟨s.portStatus p, rfl, ?state, ?claims, ?offers, State.portStatus_floor p, State.portStatus_faultWatch p,
      congrArg BitVec.toNat hp.selected, ?lease, ?holder, hp.unused⟩,
    ⟨s.engineStatus, rfl, ?engine, he.halted, he.busy, ?src, ?abort, ?queued, he.unused⟩,
    ⟨_, rfl, fun i hi => getLsbD_lineState0 _ hi⟩,
    ⟨_, rfl, fun i hi => getLsbD_lineState1 _ hi, lineState1_unused _⟩⟩
  case state => rw [hp.state]; exact toNat_portStateCode _
  case claims => rw [hp.claims, toNat_ofNat_le hclaims (by decide)]
  case offers => rw [hp.offers, toNat_ofNat_le hoffers (by decide)]
  case lease => rw [hp.lease]; exact toNat_leaseCode _ _
  case holder => rw [hp.holder]; cases s.lease <;> rfl
  case engine => rw [he.state]; exact toNat_engineStateCode _
  case src => rw [he.src]; cases s.service <;> rfl
  case abort => rw [he.abort]; cases s.service <;> rfl
  case queued => rw [he.queued, toNat_ofNat_le hqueued (by decide)]

end Sys2Proof.Machine
end

section
namespace Sys2Proof.Machine

open BitVec

variable {s : State} {p : Port}

/-! ### The claim word and OFFER HEAD -/

/-- The four hand-on flags stand in bits `k` to `k + 3` of a word, ENGINE_DONE lowest (Tables 10-8 and 10-10). -/
structure ShowsFlags (w : Word) (k : Nat) (f : HandOnFlags) : Prop where
  done    : w.getLsbD k = f.done
  fault   : w.getLsbD (k + 1) = f.fault
  aborted : w.getLsbD (k + 2) = f.aborted
  reoffer : w.getLsbD (k + 3) = f.reoffer

theorem showsFlags_of_field {w : Word} {k : Nat} {f : HandOnFlags} (h : w.extractLsb' k 4 = f.bits) :
    ShowsFlags w k f := by
  obtain ⟨hdone, hfault, haborted, hreoffer⟩ := f.getLsbD_bits
  have hflag (i : Nat) (hi : i < 4) := getLsbD_of_field h hi
  exact ⟨(hflag 0 (by decide)).trans hdone, (hflag 1 (by decide)).trans hfault, (hflag 2 (by decide)).trans haborted,
    (hflag 3 (by decide)).trans hreoffer⟩

/-- The fields of Table 10-8. -/
structure ShowsOffer (w : Word) (code : BitVec 4) (src : SourceId) (cls : SourceClass) (mark : Bool)
    (flags : HandOnFlags) (tag : Tag) : Prop where
  code  : w.extractLsb' 0 4 = code
  src   : (w.extractLsb' 4 6).toNat = src.val
  cls   : (w.extractLsb' 10 3).toNat = cls.val
  mark  : w.getLsbD 13 = mark
  flags : ShowsFlags w 14 flags
  tag   : w.extractLsb' 18 8 = tag

section
variable (code : BitVec 4) (src : SourceId) (cls : SourceClass) (mark : Bool) (flags : HandOnFlags) (tag : Tag)
  (count : Nat)

theorem offerWord_flags : (offerWord code src cls mark flags tag count).extractLsb' 14 4 = flags.bits := by
  simp (disch := omega) only [offerWord, extractLsb'_append_eq_of_add_le, extractLsb'_append_eq_of_le]
  exact extractLsb'_eq_self

theorem showsOffer_offerWord :
    ShowsOffer (offerWord code src cls mark flags tag count) code src cls mark flags tag := by
  constructor
  case flags => exact showsFlags_of_field (offerWord_flags _ _ _ _ _ _ _)
  case mark => simp only [offerWord, getLsbD_append]; simp
  all_goals simp (disch := omega) only [offerWord, extractLsb'_append_eq_of_add_le, extractLsb'_append_eq_of_le]
  case src | cls => exact congrArg BitVec.toNat extractLsb'_eq_self
  case code | tag => exact extractLsb'_eq_self

theorem offerWord_upper :
    (offerWord code src cls mark flags tag count).extractLsb' 26 6 = 0#1 ++ BitVec.ofNat 5 count := by
  simp (disch := omega) only [offerWord, extractLsb'_append_eq_of_le]
  exact extractLsb'_eq_self

theorem offerWord_count :
    (offerWord code src cls mark flags tag count).extractLsb' 26 5 = BitVec.ofNat 5 count := by
  simp (disch := omega) only [offerWord, extractLsb'_append_eq_of_le, extractLsb'_append_eq_of_add_le]
  exact extractLsb'_eq_self

theorem offerWord_unused : (offerWord code src cls mark flags tag count).getLsbD 31 = false := by
  simp only [offerWord, getLsbD_append]
  simp

end

theorem State.statusRead_offerHead_empty (h : s.queue p = []) : s.statusRead p 0x14 = some 1 := by
  have hhead : s.offerHead p = 1 := by simp [State.offerHead, h, codeWord, Result.code]
  exact congrArg some hhead

theorem State.statusRead_offerHead_cons {o : Offer} {rest : List Offer} (h : s.queue p = o :: rest) :
    s.statusRead p 0x14 =
      some (offerWord Result.ok.code o.src o.cls o.contest o.flags o.tag (rest.length + 1)) := by
  have hhead : s.offerHead p = offerWord Result.ok.code o.src o.cls o.contest o.flags o.tag (rest.length + 1) := by
    simp [State.offerHead, h]
  exact congrArg some hhead

/-! ### CLAIM DATA -/

/-- The fields of CLAIM DATA 0 (Table 10-11). -/
structure ShowsClaimData (w : Word) (d : ClaimData) : Prop where
  code    : w.extractLsb' 0 4 = 0
  src     : (w.extractLsb' 4 6).toNat = d.src.val
  payload : w.getLsbD 10 = d.payload.isSome
  fold    : (w.extractLsb' 16 8).toNat = d.fold.val
  gap     : w.extractLsb' 11 5 = 0
  unused  : w.extractLsb' 24 8 = 0

theorem showsClaimData_claimData0 (d : ClaimData) : ShowsClaimData (claimData0 (some d)) d := by
  unfold claimData0
  constructor
  case payload => simp only [getLsbD_append]; simp
  all_goals simp (disch := omega) only [extractLsb'_append_eq_of_add_le, extractLsb'_append_eq_of_le]
  case src | fold => exact congrArg BitVec.toNat extractLsb'_eq_self
  case code | gap | unused => exact extractLsb'_eq_self

/-- CLAIM DATA 1 is the payload, 0 when the claim has none. -/
theorem claimData1_fields (d : ClaimData) : (claimData1 (some d)).extractLsb' 0 16 = d.payload.getD 0 ∧
    (claimData1 (some d)).extractLsb' 16 16 = 0 := by
  unfold claimData1
  constructor
  all_goals
    simp (disch := omega) only [extractLsb'_append_eq_of_add_le, extractLsb'_append_eq_of_le]
    exact extractLsb'_eq_self

theorem State.statusRead_claimData {data : Option ClaimData} (h : (s.port p).claimData = data) :
    s.statusRead p 0x0C = some (claimData0 data) ∧ s.statusRead p 0x10 = some (claimData1 data) := by
  subst h
  exact ⟨rfl, rfl⟩

/-! ### RESULT -/

theorem toNat_codeWord_result (r : Result) : (codeWord r.code).toNat = match r with
    | .ok => 0 | .empty => 1 | .full => 2 | .busy => 3 | .invalid => 4 | .leased => 5 | .nolease => 6
    | .offline => 7 | .notOnline => 8 | .mismatch => 9 | .stale => 10 | .limit => 11 | .disabled => 12 := by
  cases r <;> rfl

/-- Settles O56, word by word. -/
theorem claimAndOfferWordLayouts : Obligations.ClaimAndOfferWordLayouts := by
  refine ⟨fun n c => ?claim, fun s p => State.statusRead_offerHead_empty, fun s p o rest hq hroom => ?offer,
    fun s p hd => ?absent, fun s p d hd => ?data, fun s p => ⟨_, rfl, toNat_codeWord_result _⟩⟩
  case claim =>
    have h := showsOffer_offerWord Result.ok.code n c.cls c.payload.isSome c.flags c.tag 0
    exact ⟨h.code, h.src, h.cls, h.mark, h.flags.done, h.flags.fault, h.flags.aborted, h.flags.reoffer, h.tag,
      offerWord_upper _ _ _ _ _ _ 0⟩
  case offer =>
    have h := showsOffer_offerWord Result.ok.code o.src o.cls o.contest o.flags o.tag (rest.length + 1)
    refine ⟨_, State.statusRead_offerHead_cons hq, h.code, h.src, h.cls, h.mark, h.flags.done, h.flags.fault,
      h.flags.aborted, h.flags.reoffer, h.tag, ?_, offerWord_unused _ _ _ _ _ _ _⟩
    rw [offerWord_count, toNat_ofNat_le hroom (by decide)]
  case absent =>
    obtain ⟨hdata0, hdata1⟩ := State.statusRead_claimData hd
    exact ⟨⟨_, hdata0, rfl⟩, hdata1⟩
  case data =>
    obtain ⟨hdata0, hdata1⟩ := State.statusRead_claimData hd
    have h := showsClaimData_claimData0 d
    exact ⟨⟨_, hdata0, h.code, h.src, h.payload, h.fold, h.gap, h.unused⟩, _, hdata1, claimData1_fields d⟩

end Sys2Proof.Machine
end

section
namespace Sys2Proof.Machine

open BitVec

variable {s : State} {p : Port}

/-! ### The first word of a fault record -/

theorem FaultDetail.toNat_kindCode (k : FaultDetail) : k.kindCode.toNat = match k with
    | .claimExpired _ _ => 1 | .abandoned _ => 2 | .unserved _ => 3 | .engineBusError _ => 4
    | .descriptorInvalid _ => 5 | .portReset _ => 6 | .partReset _ => 7 := by
  cases k <;> rfl

theorem BadDescriptor.toNat_code (why : BadDescriptor) : why.code.toNat = match why with
    | .badUnit => 1 | .badStep => 2 | .badPolicy => 3 | .badBurst => 4 | .zeroCount => 5
    | .misalignedSource => 6 | .misalignedDestination => 7 := by
  cases why <;> rfl

/-- Bits 15:14 by the kind: the port, the phase of the bus error, or bits 5:4 of the claim count (Table 10-9). -/
theorem FaultRecord.toNat_portOrPhase (r : FaultRecord) : r.portOrPhase.toNat = match r.detail with
    | .claimExpired _ _ | .abandoned _ | .portReset _ => (match r.port with | none => 0 | some p => p.val)
    | .engineBusError .fetch => 0 | .engineBusError .moveRead => 1 | .engineBusError .moveWrite => 2
    | .engineBusError .writeback => 3 | .partReset k => k / 16 % 4
    | .unserved _ | .descriptorInvalid _ => 0 := by
  obtain ⟨src, port, tag, address, detail, dropped⟩ := r
  cases detail with
  | claimExpired | abandoned | portReset => cases port <;> rfl
  | engineBusError ph => cases ph <;> rfl
  | unserved | descriptorInvalid => rfl
  | partReset k =>
    simp only [portOrPhase, extractLsb'_toNat, toNat_ofNat, Nat.shiftRight_eq_div_pow]
    omega

/-- The fields of the first word (Table 10-9). -/
structure ShowsRecord (w : Word) (r : FaultRecord) : Prop where
  code    : w.extractLsb' 0 4 = 0
  kind    : w.extractLsb' 4 3 = r.detail.kindCode
  present : w.getLsbD 7 = r.src.isSome
  src     : w.extractLsb' 8 6 = ofFin (w := 6) (r.src.getD 0)
  port    : w.extractLsb' 14 2 = r.portOrPhase
  tag     : w.extractLsb' 16 8 = r.tag.getD 0
  dropped : (w.extractLsb' 24 8).toNat = r.dropped.val

theorem FaultRecord.showsRecord_firstWord (r : FaultRecord) : ShowsRecord r.firstWord r := by
  unfold FaultRecord.firstWord
  constructor
  case present => simp only [getLsbD_append]; simp
  all_goals simp (disch := omega) only [extractLsb'_append_eq_of_add_le, extractLsb'_append_eq_of_le]
  case dropped => exact congrArg BitVec.toNat extractLsb'_eq_self
  case code | kind | src | port | tag => exact extractLsb'_eq_self

/-! ### The second word of a fault record -/

section
variable {r : FaultRecord}

/-- CLAIM_EXPIRED: the revocation count, then the disable-pending bit. -/
theorem FaultRecord.secondWord_claimExpired {k : Fin 4} {dp : Bool} (h : r.detail = .claimExpired k dp) :
    (r.secondWord.extractLsb' 0 2).toNat = k.val ∧ r.secondWord.getLsbD 2 = dp ∧
      r.secondWord.extractLsb' 3 29 = 0 := by
  simp only [secondWord, h]
  refine ⟨?count, ?pending, ?unused⟩
  case pending => simp only [getLsbD_append]; simp
  all_goals simp (disch := omega) only [extractLsb'_append_eq_of_add_le, extractLsb'_append_eq_of_le]
  case count => exact congrArg BitVec.toNat extractLsb'_eq_self
  case unused => exact extractLsb'_eq_self

theorem FaultRecord.secondWord_abandoned {f : Count8} (h : r.detail = .abandoned f) : r.secondWord.toNat = f.val := by
  simp only [secondWord, h, toNat_append]
  simp

theorem FaultRecord.secondWord_unserved {fl : HandOnFlags} (h : r.detail = .unserved fl) :
    ShowsFlags r.secondWord 0 fl ∧ r.secondWord.extractLsb' 4 28 = 0 := by
  simp only [secondWord, h]
  refine ⟨showsFlags_of_field ?flags, ?unused⟩
  all_goals
    simp (disch := omega) only [extractLsb'_append_eq_of_add_le, extractLsb'_append_eq_of_le]
    exact extractLsb'_eq_self

theorem FaultRecord.secondWord_engineBusError {ph : BusPhase} (h : r.detail = .engineBusError ph) :
    r.secondWord = r.address.getD 0 := by
  simp only [secondWord, h]

/-- A word that keeps a code or a count in the low bits of an address (Table 10-10). -/
theorem addressWord_fields (a : Word) (low : BitVec 4) :
    (a.extractLsb' 4 28 ++ low : Word).extractLsb' 4 28 = a.extractLsb' 4 28 ∧
    (a.extractLsb' 4 28 ++ low : Word).extractLsb' 0 4 = low := by
  constructor
  all_goals
    simp (disch := omega) only [extractLsb'_append_eq_of_add_le, extractLsb'_append_eq_of_le]
    exact extractLsb'_eq_self

theorem FaultRecord.secondWord_descriptorInvalid {why : BadDescriptor} (h : r.detail = .descriptorInvalid why) :
    r.secondWord.extractLsb' 4 28 = (r.address.getD 0).extractLsb' 4 28 ∧
      r.secondWord.extractLsb' 0 4 = why.code := by
  simp only [secondWord, h]
  exact addressWord_fields _ _

theorem FaultRecord.secondWord_partReset {k : Nat} (h : r.detail = .partReset k) :
    r.secondWord.extractLsb' 4 28 = (r.address.getD 0).extractLsb' 4 28 ∧
      r.secondWord.extractLsb' 0 4 = .ofNat 4 k := by
  simp only [secondWord, h]
  exact addressWord_fields _ _

theorem FaultRecord.secondWord_portReset {k : Nat} (h : r.detail = .portReset k) (hk : k ≤ 8) :
    r.secondWord.toNat = k := by
  simp only [secondWord, h, toNat_append, toNat_ofNat_le hk (show 8 < 2 ^ 4 by decide)]
  simp

end

/-! ### FAULT DATA -/

theorem State.statusRead_faultData0 :
    s.statusRead p 0x1C = some (if (s.port p).faultData = none then 1 else 0) := by
  have hcode (data : Option Word) : faultData0 data = if data = none then 1 else 0 := by
    cases data <;> rfl
  exact congrArg some (hcode _)

theorem State.statusRead_faultData1 {d : Word} (h : (s.port p).faultData = some d) :
    s.statusRead p 0x20 = some d :=
  congrArg (fun data : Option Word => some (data.getD 0)) h

/-- Settles O57, kind by kind of the record. -/
theorem faultWordLayouts : Obligations.FaultWordLayouts := by
  refine ⟨fun r => ?first, fun r => ?second,
    fun s p => ⟨State.statusRead_faultData0, fun d => State.statusRead_faultData1⟩⟩
  case first =>
    have h := r.showsRecord_firstWord
    refine ⟨h.code, ?kind, h.present, ?src, ?port, h.tag, h.dropped⟩
    case kind => rw [h.kind]; exact r.detail.toNat_kindCode
    case src => rw [h.src]; cases r.src <;> rfl
    case port => rw [h.port]; exact r.toNat_portOrPhase
  case second =>
    intro w
    cases hd : r.detail with
    | claimExpired k dp => exact FaultRecord.secondWord_claimExpired hd
    | abandoned f => exact FaultRecord.secondWord_abandoned hd
    | unserved fl =>
      obtain ⟨hflags, hunused⟩ := FaultRecord.secondWord_unserved hd
      exact ⟨hflags.done, hflags.fault, hflags.aborted, hflags.reoffer, hunused⟩
    | engineBusError ph => exact FaultRecord.secondWord_engineBusError hd
    | descriptorInvalid why =>
      obtain ⟨haddr, hcode⟩ := FaultRecord.secondWord_descriptorInvalid hd
      exact ⟨haddr, (congrArg BitVec.toNat hcode).trans why.toNat_code⟩
    | portReset k => exact FaultRecord.secondWord_portReset hd
    | partReset k =>
      obtain ⟨haddr, hcount⟩ := FaultRecord.secondWord_partReset hd
      exact ⟨haddr, (congrArg BitVec.toNat hcount).trans (toNat_ofNat k 4)⟩

end Sys2Proof.Machine
end
